-- ==== Sys2Proof/Word.lean ====
section
/-! DEFINITION. The two word types of the TSK80x: bytes and 16-bit words (00_scope.md R6). -/

namespace Sys2Proof

/-- An 8-bit value: a working register, the data bus, one memory byte or one port (R6). -/
abbrev Byte := BitVec 8

/-- A 16-bit value: a register pair, `IX`, `IY`, `SP`, `PC`, an address on `ADDR` (R6). -/
abbrev Word := BitVec 16

end Sys2Proof
end

