-- ==== Sys2Proof/Machine/Bits.lean ====
section
/-! DEFINITION. The bit operations of the spec's pseudocode (00_scope.md R10). -/

namespace Sys2Proof

/-- `lo(w)` of R10. -/
def lo (w : Word) : Byte := w.extractLsb' 0 8

/-- `hi(w)` of R10. -/
def hi (w : Word) : Byte := w.extractLsb' 8 8

/-- `h : l` of R10: the 16-bit value with high-order byte `h` and low-order byte `l`. -/
def join (h l : Byte) : Word := h ++ l

/-- `sext_16(v)` of R10. -/
def sext16 (v : Byte) : Word := v.signExtend 16

/-- `parity_even(v)` of R10: `v` has an even number of 1 bits. -/
def parityEven (v : Byte) : Bool :=
  !(v.getLsbD 0 ^^ v.getLsbD 1 ^^ v.getLsbD 2 ^^ v.getLsbD 3 ^^
    v.getLsbD 4 ^^ v.getLsbD 5 ^^ v.getLsbD 6 ^^ v.getLsbD 7)

end Sys2Proof
end

