-- ==== Sys2Proof/Config.lean ====
section
/-! DEFINITION. What an implementation or a platform fixes (00_scope.md R7), and the free values: the
values the spec leaves open, which are constants without a body. -/

namespace Sys2Proof

/-- The family member (R2, R7). -/
inductive Variant where
  | tsk80a
  | tsk80aD
deriving DecidableEq, Repr

/-- The parameter `Im2Vector` of R7: how mode 2 forms the service address (60_exceptions.md R459). -/
inductive Im2Vector where
  | direct
  | indirect
deriving DecidableEq, Repr

/-- What the platform's `MemMap` says of an address (20_memory.md R76). -/
inductive MemKind where
  | ram
  | rom
  | absent
  | device
deriving DecidableEq, Repr

/-- A range of addresses of one kind: `size` addresses from `base` on. -/
structure Region where
  base : Nat
  size : Nat
  kind : MemKind
deriving DecidableEq, Repr

/-- The parameters of R7 that do not change while the machine runs. An address in no region of
`memMap` is RAM, so the empty list is the simplest instance that R76 names (log 1, 2, 3, 4).
`finalByteM1` is the model's own parameter, for a point on which spec/ differs with itself: whether the last
byte of a DD CB or FD CB form carries `M1`, as D22 says, or not, as R92 and R94 say (log 28). -/
structure Platform where
  variant : Variant
  im2Vector : Im2Vector
  intAckClearsIFF2 : Bool
  memMap : List Region
  finalByteM1 : Bool
deriving DecidableEq, Repr

/-- A free value: one bit the spec leaves as "any value", the n-th such draw of a run
(10_state.md R32, D3 and D6; log 6 and 7). It has no body, so no proof can use its value. -/
opaque Config.freeBit : Nat → Bool

/-- A free value: a byte read where nothing the spec describes drives the bus, the n-th such draw
of a run (20_memory.md R76, U14 and U16; log 9). -/
opaque Config.freeByte : Nat → Byte

/-- A free value: what a memory byte that nothing has written holds (R50, R76, R492; log 5). -/
opaque Config.initialByte : Nat → Byte

end Sys2Proof
end

