-- ==== Sys2Proof/Syntax.lean ====
section
/-! DEFINITION. The instructions of the TSK80x: one constructor of `Instr` for each row of
spec/opcode_table.json (30_encoding.md R120), and the operand fields of R96 to R104. -/

namespace Sys2Proof

/-- The working registers a 3-bit code names (30_encoding.md R96). -/
inductive Reg8 where
  | b | c | d | e | h | l | a
deriving DecidableEq, Repr

/-- The index registers: `XY` of the spec (30_encoding.md R93). -/
inductive Idx where
  | ix | iy
deriving DecidableEq, Repr

/-- The pair field `pp` (30_encoding.md R97). -/
inductive Pair where
  | bc | de | hl | sp
deriving DecidableEq, Repr

/-- The pair field `qq` of `PUSH` and `POP` (30_encoding.md R98). -/
inductive PairQ where
  | bc | de | hl | af
deriving DecidableEq, Repr

/-- The pair field of `ADD IX,pp` and `ADD IY,pp`: code 10 names the index register itself
(30_encoding.md R97). -/
inductive PairX where
  | bc | de | self | sp
deriving DecidableEq, Repr

/-- The conditions of the field `ccc` (30_encoding.md R99). -/
inductive Cond where
  | nz | z | nc | c | po | pe | p | m
deriving DecidableEq, Repr

/-- The conditions of the 2-bit field of `JR cc,e` (30_encoding.md R99). -/
inductive Cond4 where
  | nz | z | nc | c
deriving DecidableEq, Repr

/-- The eight operations of the 8-bit arithmetic and logic group (40_arith8.md, 42_logic.md). -/
inductive Alu where
  | add | adc | sub | sbc | and | xor | or | cp
deriving DecidableEq, Repr

/-- The seven CB-prefixed rotates and shifts (47_rotate_shift_bit.md). -/
inductive Rot where
  | rlc | rrc | rl | rr | sla | sra | srl
deriving DecidableEq, Repr

/-- The instructions, one constructor for each row of spec/opcode_table.json, those with operand
fields first. `n`, `d` and `e` are instruction bytes, `nn` is the 16-bit value of two (R100), `b` a bit number
(R103), `p` the restart address of `RST` (R104). -/
inductive Instr where
  /-- `LD pp,nn` (R250). -/
  | ldPpNn (p : Pair) (nn : Word)
  /-- `LD (nn),HL` (R254). -/
  | ldAtNnHl (nn : Word)
  /-- `LD (nn),A` (R234). -/
  | ldAtNnA (nn : Word)
  /-- `INC pp` (R178). -/
  | incPp (p : Pair)
  /-- `DEC pp` (R180). -/
  | decPp (p : Pair)
  /-- `ADD HL,pp` (R173). -/
  | addHlPp (p : Pair)
  /-- `LD B,n` (R221). -/
  | ldBN (n : Byte)
  /-- `LD C,n` (R221). -/
  | ldCN (n : Byte)
  /-- `LD D,n` (R221). -/
  | ldDN (n : Byte)
  /-- `LD E,n` (R221). -/
  | ldEN (n : Byte)
  /-- `LD H,n` (R221). -/
  | ldHN (n : Byte)
  /-- `LD L,n` (R221). -/
  | ldLN (n : Byte)
  /-- `LD A,n` (R221). -/
  | ldAN (n : Byte)
  /-- `LD (HL),n` (R226). -/
  | ldAtHlN (n : Byte)
  /-- `LD HL,(nn)` (R258). -/
  | ldHlAtNn (nn : Word)
  /-- `LD A,(nn)` (R231). -/
  | ldAAtNn (nn : Word)
  /-- `DJNZ e` (R307). -/
  | djnzE (e : Byte)
  /-- `JR e` (R305). -/
  | jrE (e : Byte)
  /-- `JR cc,e` (R306). -/
  | jrCcE (cc : Cond4) (e : Byte)
  /-- `ADD A,n` (R136). -/
  | addAN (n : Byte)
  /-- `ADC A,n` (R140). -/
  | adcAN (n : Byte)
  /-- `SUB n` (R144). -/
  | subN (n : Byte)
  /-- `SBC A,n` (R148). -/
  | sbcAN (n : Byte)
  /-- `AND n` (R192). -/
  | andN (n : Byte)
  /-- `XOR n` (R200). -/
  | xorN (n : Byte)
  /-- `OR n` (R196). -/
  | orN (n : Byte)
  /-- `CP n` (R204). -/
  | cpN (n : Byte)
  /-- `RET cc` (R311). -/
  | retCc (cc : Cond)
  /-- `POP qq` (R267). -/
  | popQq (q : PairQ)
  /-- `JP cc,nn` (R301). -/
  | jpCcNn (cc : Cond) (nn : Word)
  /-- `JP nn` (R300). -/
  | jpNn (nn : Word)
  /-- `CALL cc,nn` (R309). -/
  | callCcNn (cc : Cond) (nn : Word)
  /-- `PUSH qq` (R265). -/
  | pushQq (q : PairQ)
  /-- `RST p` (R314). -/
  | rstP (p : Byte)
  /-- `CALL nn` (R308). -/
  | callNn (nn : Word)
  /-- `OUT (n),A` (R392). -/
  | outPortNA (n : Byte)
  /-- `IN A,(n)` (R390). -/
  | inAPortN (n : Byte)
  /-- `RLC (IX+d)` (R337). -/
  | rlcAtIxd (d : Byte)
  /-- `RLC (IY+d)` (R338). -/
  | rlcAtIyd (d : Byte)
  /-- `RRC (IX+d)` (R345). -/
  | rrcAtIxd (d : Byte)
  /-- `RRC (IY+d)` (R346). -/
  | rrcAtIyd (d : Byte)
  /-- `RL (IX+d)` (R341). -/
  | rlAtIxd (d : Byte)
  /-- `RL (IY+d)` (R342). -/
  | rlAtIyd (d : Byte)
  /-- `RR (IX+d)` (R349). -/
  | rrAtIxd (d : Byte)
  /-- `RR (IY+d)` (R350). -/
  | rrAtIyd (d : Byte)
  /-- `SLA (IX+d)` (R353). -/
  | slaAtIxd (d : Byte)
  /-- `SLA (IY+d)` (R354). -/
  | slaAtIyd (d : Byte)
  /-- `SRA (IX+d)` (R357). -/
  | sraAtIxd (d : Byte)
  /-- `SRA (IY+d)` (R358). -/
  | sraAtIyd (d : Byte)
  /-- `SRL (IX+d)` (R361). -/
  | srlAtIxd (d : Byte)
  /-- `SRL (IY+d)` (R362). -/
  | srlAtIyd (d : Byte)
  /-- `BIT b,B` (R365). -/
  | bitB (b : BitVec 3)
  /-- `BIT b,C` (R365). -/
  | bitC (b : BitVec 3)
  /-- `BIT b,D` (R365). -/
  | bitD (b : BitVec 3)
  /-- `BIT b,E` (R365). -/
  | bitE (b : BitVec 3)
  /-- `BIT b,H` (R365). -/
  | bitH (b : BitVec 3)
  /-- `BIT b,L` (R365). -/
  | bitL (b : BitVec 3)
  /-- `BIT b,A` (R365). -/
  | bitA (b : BitVec 3)
  /-- `BIT b,(HL)` (R366). -/
  | bitAtHl (b : BitVec 3)
  /-- `BIT b,(IX+d)` (R367). -/
  | bitAtIxd (b : BitVec 3) (d : Byte)
  /-- `BIT b,(IY+d)` (R368). -/
  | bitAtIyd (b : BitVec 3) (d : Byte)
  /-- `RES b,B` (R373). -/
  | resB (b : BitVec 3)
  /-- `RES b,C` (R373). -/
  | resC (b : BitVec 3)
  /-- `RES b,D` (R373). -/
  | resD (b : BitVec 3)
  /-- `RES b,E` (R373). -/
  | resE (b : BitVec 3)
  /-- `RES b,H` (R373). -/
  | resH (b : BitVec 3)
  /-- `RES b,L` (R373). -/
  | resL (b : BitVec 3)
  /-- `RES b,A` (R373). -/
  | resA (b : BitVec 3)
  /-- `RES b,(HL)` (R374). -/
  | resAtHl (b : BitVec 3)
  /-- `RES b,(IX+d)` (R375). -/
  | resAtIxd (b : BitVec 3) (d : Byte)
  /-- `RES b,(IY+d)` (R376). -/
  | resAtIyd (b : BitVec 3) (d : Byte)
  /-- `SET b,B` (R369). -/
  | setB (b : BitVec 3)
  /-- `SET b,C` (R369). -/
  | setC (b : BitVec 3)
  /-- `SET b,D` (R369). -/
  | setD (b : BitVec 3)
  /-- `SET b,E` (R369). -/
  | setE (b : BitVec 3)
  /-- `SET b,H` (R369). -/
  | setH (b : BitVec 3)
  /-- `SET b,L` (R369). -/
  | setL (b : BitVec 3)
  /-- `SET b,A` (R369). -/
  | setA (b : BitVec 3)
  /-- `SET b,(HL)` (R370). -/
  | setAtHl (b : BitVec 3)
  /-- `SET b,(IX+d)` (R371). -/
  | setAtIxd (b : BitVec 3) (d : Byte)
  /-- `SET b,(IY+d)` (R372). -/
  | setAtIyd (b : BitVec 3) (d : Byte)
  /-- `SBC HL,pp` (R177). -/
  | sbcHlPp (p : Pair)
  /-- `ADC HL,pp` (R176). -/
  | adcHlPp (p : Pair)
  /-- `LD (nn),pp` (R255). -/
  | ldAtNnPp (nn : Word) (p : Pair)
  /-- `LD pp,(nn)` (R259). -/
  | ldPpAtNn (p : Pair) (nn : Word)
  /-- `ADD IX,pp` (R174). -/
  | addIxPp (p : PairX)
  /-- `LD IX,nn` (R251). -/
  | ldIxNn (nn : Word)
  /-- `LD (nn),IX` (R256). -/
  | ldAtNnIx (nn : Word)
  /-- `LD IX,(nn)` (R260). -/
  | ldIxAtNn (nn : Word)
  /-- `INC (IX+d)` (R153). -/
  | incAtIxd (d : Byte)
  /-- `DEC (IX+d)` (R157). -/
  | decAtIxd (d : Byte)
  /-- `LD (IX+d),n` (R227). -/
  | ldAtIxdN (d : Byte) (n : Byte)
  /-- `LD B,(IX+d)` (R223). -/
  | ldBAtIxd (d : Byte)
  /-- `LD (IX+d),B` (R225). -/
  | ldAtIxdB (d : Byte)
  /-- `LD C,(IX+d)` (R223). -/
  | ldCAtIxd (d : Byte)
  /-- `LD (IX+d),C` (R225). -/
  | ldAtIxdC (d : Byte)
  /-- `LD D,(IX+d)` (R223). -/
  | ldDAtIxd (d : Byte)
  /-- `LD (IX+d),D` (R225). -/
  | ldAtIxdD (d : Byte)
  /-- `LD E,(IX+d)` (R223). -/
  | ldEAtIxd (d : Byte)
  /-- `LD (IX+d),E` (R225). -/
  | ldAtIxdE (d : Byte)
  /-- `LD H,(IX+d)` (R223). -/
  | ldHAtIxd (d : Byte)
  /-- `LD (IX+d),H` (R225). -/
  | ldAtIxdH (d : Byte)
  /-- `LD L,(IX+d)` (R223). -/
  | ldLAtIxd (d : Byte)
  /-- `LD (IX+d),L` (R225). -/
  | ldAtIxdL (d : Byte)
  /-- `LD A,(IX+d)` (R223). -/
  | ldAAtIxd (d : Byte)
  /-- `LD (IX+d),A` (R225). -/
  | ldAtIxdA (d : Byte)
  /-- `ADD A,(IX+d)` (R138). -/
  | addAAtIxd (d : Byte)
  /-- `ADC A,(IX+d)` (R142). -/
  | adcAAtIxd (d : Byte)
  /-- `SUB (IX+d)` (R146). -/
  | subAtIxd (d : Byte)
  /-- `SBC A,(IX+d)` (R150). -/
  | sbcAAtIxd (d : Byte)
  /-- `AND (IX+d)` (R194). -/
  | andAtIxd (d : Byte)
  /-- `XOR (IX+d)` (R202). -/
  | xorAtIxd (d : Byte)
  /-- `OR (IX+d)` (R198). -/
  | orAtIxd (d : Byte)
  /-- `CP (IX+d)` (R206). -/
  | cpAtIxd (d : Byte)
  /-- `ADD IY,pp` (R175). -/
  | addIyPp (p : PairX)
  /-- `LD IY,nn` (R252). -/
  | ldIyNn (nn : Word)
  /-- `LD (nn),IY` (R257). -/
  | ldAtNnIy (nn : Word)
  /-- `LD IY,(nn)` (R261). -/
  | ldIyAtNn (nn : Word)
  /-- `INC (IY+d)` (R154). -/
  | incAtIyd (d : Byte)
  /-- `DEC (IY+d)` (R158). -/
  | decAtIyd (d : Byte)
  /-- `LD (IY+d),n` (R228). -/
  | ldAtIydN (d : Byte) (n : Byte)
  /-- `LD B,(IY+d)` (R223). -/
  | ldBAtIyd (d : Byte)
  /-- `LD (IY+d),B` (R225). -/
  | ldAtIydB (d : Byte)
  /-- `LD C,(IY+d)` (R223). -/
  | ldCAtIyd (d : Byte)
  /-- `LD (IY+d),C` (R225). -/
  | ldAtIydC (d : Byte)
  /-- `LD D,(IY+d)` (R223). -/
  | ldDAtIyd (d : Byte)
  /-- `LD (IY+d),D` (R225). -/
  | ldAtIydD (d : Byte)
  /-- `LD E,(IY+d)` (R223). -/
  | ldEAtIyd (d : Byte)
  /-- `LD (IY+d),E` (R225). -/
  | ldAtIydE (d : Byte)
  /-- `LD H,(IY+d)` (R223). -/
  | ldHAtIyd (d : Byte)
  /-- `LD (IY+d),H` (R225). -/
  | ldAtIydH (d : Byte)
  /-- `LD L,(IY+d)` (R223). -/
  | ldLAtIyd (d : Byte)
  /-- `LD (IY+d),L` (R225). -/
  | ldAtIydL (d : Byte)
  /-- `LD A,(IY+d)` (R223). -/
  | ldAAtIyd (d : Byte)
  /-- `LD (IY+d),A` (R225). -/
  | ldAtIydA (d : Byte)
  /-- `ADD A,(IY+d)` (R138). -/
  | addAAtIyd (d : Byte)
  /-- `ADC A,(IY+d)` (R142). -/
  | adcAAtIyd (d : Byte)
  /-- `SUB (IY+d)` (R146). -/
  | subAtIyd (d : Byte)
  /-- `SBC A,(IY+d)` (R150). -/
  | sbcAAtIyd (d : Byte)
  /-- `AND (IY+d)` (R194). -/
  | andAtIyd (d : Byte)
  /-- `XOR (IY+d)` (R202). -/
  | xorAtIyd (d : Byte)
  /-- `OR (IY+d)` (R198). -/
  | orAtIyd (d : Byte)
  /-- `CP (IY+d)` (R206). -/
  | cpAtIyd (d : Byte)
  /-- `NOP` (R280). -/
  | nop
  /-- `LD (BC),A` (R232). -/
  | ldAtBcA
  /-- `LD (DE),A` (R233). -/
  | ldAtDeA
  /-- `INC B` (R151). -/
  | incB
  /-- `DEC B` (R155). -/
  | decB
  /-- `INC C` (R151). -/
  | incC
  /-- `DEC C` (R155). -/
  | decC
  /-- `INC D` (R151). -/
  | incD
  /-- `DEC D` (R155). -/
  | decD
  /-- `INC E` (R151). -/
  | incE
  /-- `DEC E` (R155). -/
  | decE
  /-- `INC H` (R151). -/
  | incH
  /-- `DEC H` (R155). -/
  | decH
  /-- `INC L` (R151). -/
  | incL
  /-- `DEC L` (R155). -/
  | decL
  /-- `INC A` (R151). -/
  | incA
  /-- `DEC A` (R155). -/
  | decA
  /-- `INC (HL)` (R152). -/
  | incAtHl
  /-- `DEC (HL)` (R156). -/
  | decAtHl
  /-- `RLCA` (R331). -/
  | rlca
  /-- `RRCA` (R333). -/
  | rrca
  /-- `RLA` (R332). -/
  | rla
  /-- `RRA` (R334). -/
  | rra
  /-- `DAA` (R281). -/
  | daa
  /-- `CPL` (R282). -/
  | cpl
  /-- `SCF` (R285). -/
  | scf
  /-- `CCF` (R284). -/
  | ccf
  /-- `EX AF,AF'` (R411). -/
  | exAfAf
  /-- `LD A,(BC)` (R229). -/
  | ldAAtBc
  /-- `LD A,(DE)` (R230). -/
  | ldAAtDe
  /-- `LD B,B` (R220). -/
  | ldBB
  /-- `LD B,C` (R220). -/
  | ldBC
  /-- `LD B,D` (R220). -/
  | ldBD
  /-- `LD B,E` (R220). -/
  | ldBE
  /-- `LD B,H` (R220). -/
  | ldBH
  /-- `LD B,L` (R220). -/
  | ldBL
  /-- `LD B,A` (R220). -/
  | ldBA
  /-- `LD C,B` (R220). -/
  | ldCB
  /-- `LD C,C` (R220). -/
  | ldCC
  /-- `LD C,D` (R220). -/
  | ldCD
  /-- `LD C,E` (R220). -/
  | ldCE
  /-- `LD C,H` (R220). -/
  | ldCH
  /-- `LD C,L` (R220). -/
  | ldCL
  /-- `LD C,A` (R220). -/
  | ldCA
  /-- `LD D,B` (R220). -/
  | ldDB
  /-- `LD D,C` (R220). -/
  | ldDC
  /-- `LD D,D` (R220). -/
  | ldDD
  /-- `LD D,E` (R220). -/
  | ldDE
  /-- `LD D,H` (R220). -/
  | ldDH
  /-- `LD D,L` (R220). -/
  | ldDL
  /-- `LD D,A` (R220). -/
  | ldDA
  /-- `LD E,B` (R220). -/
  | ldEB
  /-- `LD E,C` (R220). -/
  | ldEC
  /-- `LD E,D` (R220). -/
  | ldED
  /-- `LD E,E` (R220). -/
  | ldEE
  /-- `LD E,H` (R220). -/
  | ldEH
  /-- `LD E,L` (R220). -/
  | ldEL
  /-- `LD E,A` (R220). -/
  | ldEA
  /-- `LD H,B` (R220). -/
  | ldHB
  /-- `LD H,C` (R220). -/
  | ldHC
  /-- `LD H,D` (R220). -/
  | ldHD
  /-- `LD H,E` (R220). -/
  | ldHE
  /-- `LD H,H` (R220). -/
  | ldHH
  /-- `64h, software breakpoint` (R296). -/
  | breakpoint64
  /-- `LD H,L` (R220). -/
  | ldHL
  /-- `LD H,A` (R220). -/
  | ldHA
  /-- `LD L,B` (R220). -/
  | ldLB
  /-- `LD L,C` (R220). -/
  | ldLC
  /-- `LD L,D` (R220). -/
  | ldLD
  /-- `LD L,E` (R220). -/
  | ldLE
  /-- `LD L,H` (R220). -/
  | ldLH
  /-- `LD L,L` (R220). -/
  | ldLL
  /-- `LD L,A` (R220). -/
  | ldLA
  /-- `LD A,B` (R220). -/
  | ldAB
  /-- `LD A,C` (R220). -/
  | ldAC
  /-- `LD A,D` (R220). -/
  | ldAD
  /-- `LD A,E` (R220). -/
  | ldAE
  /-- `LD A,H` (R220). -/
  | ldAH
  /-- `LD A,L` (R220). -/
  | ldAL
  /-- `LD A,A` (R220). -/
  | ldAA
  /-- `LD B,(HL)` (R222). -/
  | ldBAtHl
  /-- `LD (HL),B` (R224). -/
  | ldAtHlB
  /-- `LD C,(HL)` (R222). -/
  | ldCAtHl
  /-- `LD (HL),C` (R224). -/
  | ldAtHlC
  /-- `LD D,(HL)` (R222). -/
  | ldDAtHl
  /-- `LD (HL),D` (R224). -/
  | ldAtHlD
  /-- `LD E,(HL)` (R222). -/
  | ldEAtHl
  /-- `LD (HL),E` (R224). -/
  | ldAtHlE
  /-- `LD H,(HL)` (R222). -/
  | ldHAtHl
  /-- `LD (HL),H` (R224). -/
  | ldAtHlH
  /-- `LD L,(HL)` (R222). -/
  | ldLAtHl
  /-- `LD (HL),L` (R224). -/
  | ldAtHlL
  /-- `LD A,(HL)` (R222). -/
  | ldAAtHl
  /-- `LD (HL),A` (R224). -/
  | ldAtHlA
  /-- `HALT` (R286). -/
  | halt
  /-- `ADD A,B` (R135). -/
  | addAB
  /-- `ADD A,C` (R135). -/
  | addAC
  /-- `ADD A,D` (R135). -/
  | addAD
  /-- `ADD A,E` (R135). -/
  | addAE
  /-- `ADD A,H` (R135). -/
  | addAH
  /-- `ADD A,L` (R135). -/
  | addAL
  /-- `ADD A,A` (R135). -/
  | addAA
  /-- `ADD A,(HL)` (R137). -/
  | addAAtHl
  /-- `ADC A,B` (R139). -/
  | adcAB
  /-- `ADC A,C` (R139). -/
  | adcAC
  /-- `ADC A,D` (R139). -/
  | adcAD
  /-- `ADC A,E` (R139). -/
  | adcAE
  /-- `ADC A,H` (R139). -/
  | adcAH
  /-- `ADC A,L` (R139). -/
  | adcAL
  /-- `ADC A,A` (R139). -/
  | adcAA
  /-- `ADC A,(HL)` (R141). -/
  | adcAAtHl
  /-- `SUB B` (R143). -/
  | subB
  /-- `SUB C` (R143). -/
  | subC
  /-- `SUB D` (R143). -/
  | subD
  /-- `SUB E` (R143). -/
  | subE
  /-- `SUB H` (R143). -/
  | subH
  /-- `SUB L` (R143). -/
  | subL
  /-- `SUB A` (R143). -/
  | subA
  /-- `SUB (HL)` (R145). -/
  | subAtHl
  /-- `SBC A,B` (R147). -/
  | sbcAB
  /-- `SBC A,C` (R147). -/
  | sbcAC
  /-- `SBC A,D` (R147). -/
  | sbcAD
  /-- `SBC A,E` (R147). -/
  | sbcAE
  /-- `SBC A,H` (R147). -/
  | sbcAH
  /-- `SBC A,L` (R147). -/
  | sbcAL
  /-- `SBC A,A` (R147). -/
  | sbcAA
  /-- `SBC A,(HL)` (R149). -/
  | sbcAAtHl
  /-- `AND B` (R191). -/
  | andB
  /-- `AND C` (R191). -/
  | andC
  /-- `AND D` (R191). -/
  | andD
  /-- `AND E` (R191). -/
  | andE
  /-- `AND H` (R191). -/
  | andH
  /-- `AND L` (R191). -/
  | andL
  /-- `AND A` (R191). -/
  | andA
  /-- `AND (HL)` (R193). -/
  | andAtHl
  /-- `XOR B` (R199). -/
  | xorB
  /-- `XOR C` (R199). -/
  | xorC
  /-- `XOR D` (R199). -/
  | xorD
  /-- `XOR E` (R199). -/
  | xorE
  /-- `XOR H` (R199). -/
  | xorH
  /-- `XOR L` (R199). -/
  | xorL
  /-- `XOR A` (R199). -/
  | xorA
  /-- `XOR (HL)` (R201). -/
  | xorAtHl
  /-- `OR B` (R195). -/
  | orB
  /-- `OR C` (R195). -/
  | orC
  /-- `OR D` (R195). -/
  | orD
  /-- `OR E` (R195). -/
  | orE
  /-- `OR H` (R195). -/
  | orH
  /-- `OR L` (R195). -/
  | orL
  /-- `OR A` (R195). -/
  | orA
  /-- `OR (HL)` (R197). -/
  | orAtHl
  /-- `CP B` (R203). -/
  | cpB
  /-- `CP C` (R203). -/
  | cpC
  /-- `CP D` (R203). -/
  | cpD
  /-- `CP E` (R203). -/
  | cpE
  /-- `CP H` (R203). -/
  | cpH
  /-- `CP L` (R203). -/
  | cpL
  /-- `CP A` (R203). -/
  | cpA
  /-- `CP (HL)` (R205). -/
  | cpAtHl
  /-- `RET` (R310). -/
  | ret
  /-- `EXX` (R412). -/
  | exx
  /-- `EX (SP),HL` (R413). -/
  | exAtSpHl
  /-- `JP (HL)` (R302). -/
  | jpHl
  /-- `EX DE,HL` (R410). -/
  | exDeHl
  /-- `DI` (R288). -/
  | di
  /-- `LD SP,HL` (R262). -/
  | ldSpHl
  /-- `EI` (R287). -/
  | ei
  /-- `RLC B` (R335). -/
  | rlcB
  /-- `RLC C` (R335). -/
  | rlcC
  /-- `RLC D` (R335). -/
  | rlcD
  /-- `RLC E` (R335). -/
  | rlcE
  /-- `RLC H` (R335). -/
  | rlcH
  /-- `RLC L` (R335). -/
  | rlcL
  /-- `RLC A` (R335). -/
  | rlcA
  /-- `RLC (HL)` (R336). -/
  | rlcAtHl
  /-- `RRC B` (R343). -/
  | rrcB
  /-- `RRC C` (R343). -/
  | rrcC
  /-- `RRC D` (R343). -/
  | rrcD
  /-- `RRC E` (R343). -/
  | rrcE
  /-- `RRC H` (R343). -/
  | rrcH
  /-- `RRC L` (R343). -/
  | rrcL
  /-- `RRC A` (R343). -/
  | rrcA
  /-- `RRC (HL)` (R344). -/
  | rrcAtHl
  /-- `RL B` (R339). -/
  | rlB
  /-- `RL C` (R339). -/
  | rlC
  /-- `RL D` (R339). -/
  | rlD
  /-- `RL E` (R339). -/
  | rlE
  /-- `RL H` (R339). -/
  | rlH
  /-- `RL L` (R339). -/
  | rlL
  /-- `RL A` (R339). -/
  | rlA
  /-- `RL (HL)` (R340). -/
  | rlAtHl
  /-- `RR B` (R347). -/
  | rrB
  /-- `RR C` (R347). -/
  | rrC
  /-- `RR D` (R347). -/
  | rrD
  /-- `RR E` (R347). -/
  | rrE
  /-- `RR H` (R347). -/
  | rrH
  /-- `RR L` (R347). -/
  | rrL
  /-- `RR A` (R347). -/
  | rrA
  /-- `RR (HL)` (R348). -/
  | rrAtHl
  /-- `SLA B` (R351). -/
  | slaB
  /-- `SLA C` (R351). -/
  | slaC
  /-- `SLA D` (R351). -/
  | slaD
  /-- `SLA E` (R351). -/
  | slaE
  /-- `SLA H` (R351). -/
  | slaH
  /-- `SLA L` (R351). -/
  | slaL
  /-- `SLA A` (R351). -/
  | slaA
  /-- `SLA (HL)` (R352). -/
  | slaAtHl
  /-- `SRA B` (R355). -/
  | sraB
  /-- `SRA C` (R355). -/
  | sraC
  /-- `SRA D` (R355). -/
  | sraD
  /-- `SRA E` (R355). -/
  | sraE
  /-- `SRA H` (R355). -/
  | sraH
  /-- `SRA L` (R355). -/
  | sraL
  /-- `SRA A` (R355). -/
  | sraA
  /-- `SRA (HL)` (R356). -/
  | sraAtHl
  /-- `SRL B` (R359). -/
  | srlB
  /-- `SRL C` (R359). -/
  | srlC
  /-- `SRL D` (R359). -/
  | srlD
  /-- `SRL E` (R359). -/
  | srlE
  /-- `SRL H` (R359). -/
  | srlH
  /-- `SRL L` (R359). -/
  | srlL
  /-- `SRL A` (R359). -/
  | srlA
  /-- `SRL (HL)` (R360). -/
  | srlAtHl
  /-- `TRAP` (R295). -/
  | trap
  /-- `IN B,(C)` (R391). -/
  | inBPortC
  /-- `OUT (C),B` (R393). -/
  | outPortCB
  /-- `IN C,(C)` (R391). -/
  | inCPortC
  /-- `OUT (C),C` (R393). -/
  | outPortCC
  /-- `IN D,(C)` (R391). -/
  | inDPortC
  /-- `OUT (C),D` (R393). -/
  | outPortCD
  /-- `IN E,(C)` (R391). -/
  | inEPortC
  /-- `OUT (C),E` (R393). -/
  | outPortCE
  /-- `IN H,(C)` (R391). -/
  | inHPortC
  /-- `OUT (C),H` (R393). -/
  | outPortCH
  /-- `IN L,(C)` (R391). -/
  | inLPortC
  /-- `OUT (C),L` (R393). -/
  | outPortCL
  /-- `IN A,(C)` (R391). -/
  | inAPortC
  /-- `OUT (C),A` (R393). -/
  | outPortCA
  /-- `NEG` (R283). -/
  | neg
  /-- `RETN` (R313). -/
  | retn
  /-- `IM 0` (R289). -/
  | im0
  /-- `IM 1` (R290). -/
  | im1
  /-- `IM 2` (R291). -/
  | im2
  /-- `LD I,A` (R236). -/
  | ldIA
  /-- `LD A,I` (R235). -/
  | ldAI
  /-- `RETI` (R312). -/
  | reti
  /-- `RRD` (R364). -/
  | rrd
  /-- `RLD` (R363). -/
  | rld
  /-- `LDI` (R416). -/
  | ldi
  /-- `CPI` (R420). -/
  | cpi
  /-- `INI` (R394). -/
  | ini
  /-- `OUTI` (R398). -/
  | outi
  /-- `LDD` (R418). -/
  | ldd
  /-- `CPD` (R422). -/
  | cpd
  /-- `IND` (R396). -/
  | ind
  /-- `OUTD` (R400). -/
  | outd
  /-- `LDIR` (R417). -/
  | ldir
  /-- `CPIR` (R421). -/
  | cpir
  /-- `INIR` (R395). -/
  | inir
  /-- `OTIR` (R399). -/
  | otir
  /-- `LDDR` (R419). -/
  | lddr
  /-- `CPDR` (R423). -/
  | cpdr
  /-- `INDR` (R397). -/
  | indr
  /-- `OTDR` (R401). -/
  | otdr
  /-- `INC IX` (R179). -/
  | incIx
  /-- `DEC IX` (R181). -/
  | decIx
  /-- `POP IX` (R268). -/
  | popIx
  /-- `EX (SP),IX` (R414). -/
  | exAtSpIx
  /-- `PUSH IX` (R266). -/
  | pushIx
  /-- `JP (IX)` (R303). -/
  | jpIx
  /-- `LD SP,IX` (R263). -/
  | ldSpIx
  /-- `INC IY` (R179). -/
  | incIy
  /-- `DEC IY` (R181). -/
  | decIy
  /-- `POP IY` (R268). -/
  | popIy
  /-- `EX (SP),IY` (R415). -/
  | exAtSpIy
  /-- `PUSH IY` (R266). -/
  | pushIy
  /-- `JP (IY)` (R304). -/
  | jpIy
  /-- `LD SP,IY` (R264). -/
  | ldSpIy
deriving DecidableEq, Repr

end Sys2Proof
end

