-- ==== Sys2Proof/Machine/State.lean ====
section
/-! DEFINITION. The state of the TSK80x (10_state.md R51), the parameters and inputs its step reads
(00_scope.md R7, 60_exceptions.md R444), the reasons a step can stop, and the state after reset. -/

namespace Sys2Proof.Machine

/-- One set of the eight 8-bit registers (R20, R21). -/
structure Bank where
  a : Byte
  f : Byte
  b : Byte
  c : Byte
  d : Byte
  e : Byte
  h : Byte
  l : Byte
deriving DecidableEq, Repr

/-- The three values of the register `IM` (R39). -/
inductive IntMode where
  | im0
  | im1
  | im2
deriving DecidableEq, Repr

/-- Memory contents: (address, byte) pairs, addresses strictly rising (`Memory.wf`). An address that
is not listed has no value here; what reading it answers is `State.peek`. -/
abbrev Memory := List Host.Cell

/-- One access on the buses, with the tags of 20_memory.md R68. -/
inductive BusEvent where
  /-- an opcode fetch: `MEMRD` with `M1` -/
  | fetch (addr : Word) (v : Byte)
  /-- a memory read: `MEMRD` without `M1` -/
  | memRead (addr : Word) (v : Byte)
  /-- a memory write: `MEMWR` -/
  | memWrite (addr : Word) (v : Byte)
  /-- an I/O read: `SFRRD` -/
  | ioRead (port : Word) (v : Byte)
  /-- an I/O write: `SFRWR` -/
  | ioWrite (port : Word) (v : Byte)
  /-- the interrupt acknowledge cycle: `M1` with `SFRRD` (R453) -/
  | intAck (addr : Word) (v : Byte)
  /-- the special cycle of the non-maskable interrupt: `M1`, no data (R446) -/
  | nmiCycle (addr : Word)
deriving DecidableEq, Repr

/-- Every register the debug host can write while the processor is stopped (R482). -/
structure HostRegs where
  main : Bank
  alt : Bank
  ix : Word
  iy : Word
  sp : Word
  pc : Word
  ireg : Byte
  iff1 : Bool
  iff2 : Bool
  im : IntMode
deriving DecidableEq, Repr

/-- What the debug host of the TSK80A_D does in one of its turns (R482; log 12). -/
inductive HostCmd where
  | idle
  | setRegs (r : HostRegs)
  | readMem (addr : Word)
  | writeMem (addr : Word) (v : Byte)
  | readPort (port : Word)
  | writePort (port : Word) (v : Byte)
  | singleStep
  /-- ends the halt state (60_exceptions.md R470 (d); log 40) -/
  | leaveHalt
  | resume
  | reset
deriving DecidableEq, Repr

/-- The inputs sampled at one instruction boundary: the `env` of R444 (log 8). -/
structure Boundary where
  /-- `RST` is High -/
  rst : Bool
  /-- what the host decides `debug_stopped` to be after this reset (R50; log 10) -/
  stopAfterReset : Bool
  /-- a rising edge of `NMI` was seen since the last boundary -/
  nmiEdge : Bool
  /-- `INT` is High -/
  int : Bool
  /-- `REQ` is High -/
  req : Bool
  /-- the debug unit asks for a stop (R483) -/
  debugStopRequest : Bool
  /-- a new level of the signal `debugenable` (R295) -/
  debugEnable : Option Bool
  /-- what the debug host does if it has the machine -/
  host : HostCmd
  /-- what the other bus master writes if it has the buses (R82) -/
  busWrites : List (Word × Byte)
deriving DecidableEq, Repr

/-- A boundary at which nothing arrives. -/
def Boundary.quiet : Boundary where
  rst := false
  stopAfterReset := false
  nmiEdge := false
  int := false
  req := false
  debugStopRequest := false
  debugEnable := none
  host := .idle
  busWrites := []

/-- The whole state. `F` is kept as the byte it is (R30); pairs are not separate state (R22). -/
structure State where
  /-- the base registers `A F B C D E H L` (R20) -/
  main : Bank
  /-- the alternative registers `A' F' B' C' D' E' H' L'` (R21) -/
  alt : Bank
  ix : Word
  iy : Word
  sp : Word
  pc : Word
  /-- the Interrupt register `I` (R36) -/
  ireg : Byte
  iff1 : Bool
  iff2 : Bool
  im : IntMode
  /-- `ei_shadow` (R44) -/
  eiShadow : Bool
  /-- `nmi_pending` (R45) -/
  nmiPending : Bool
  /-- `halted`, the output `HALT_ST` (R46) -/
  halted : Bool
  /-- `bus_granted`, the output `ACK` (R47) -/
  busGranted : Bool
  /-- `debug_stopped`, TSK80A_D (R48) -/
  debugStopped : Bool
  /-- what has been written to memory (R42) -/
  mem : Memory
  /-- the parameters of R7 -/
  platform : Platform
  /-- the level of the input `debugenable` (R295) -/
  debugEnable : Bool
  /-- the inputs of the boundaries to come; when none is left, nothing arrives -/
  inputs : List Boundary
  /-- the bytes devices and absent addresses answer on `MEMDATAI`, in the order of the reads -/
  memDataIn : List Byte
  /-- the bytes ports and interrupting devices answer on `SFRDATAI`, in the order of the reads -/
  sfrDataIn : List Byte
  /-- the model's own: the accesses made, newest first (R67, R68) -/
  bus : List BusEvent
  /-- the model's own: how many free values have been drawn -/
  draws : Nat
deriving DecidableEq, Repr

/-- Why the machine stops. These are the spec's `raise Unspecified` (00_scope.md R13), except the last.
All are safe: the model stops where the hardware does something the spec does not give. -/
inductive Fault where
  /-- Raised by the step on CB 30h to CB 37h (R113). Safe. -/
  | undefinedCb
  /-- Raised by the step on an ED encoding that R108 does not list (R112). Safe. -/
  | undefinedEd
  /-- Raised by the step on a DD or FD encoding that R109 does not list (R114). Safe. -/
  | undefinedIndexed
  /-- Raised by the step on a DD CB or FD CB encoding that R110 does not list (R115). Safe. -/
  | undefinedIndexedCb
  /-- Raised by the meaning of `TRAP` on a TSK80A (R295); the decoder of a TSK80A refuses its bytes first,
  as `undefinedEd`. Safe. -/
  | trapOnTsk80a
  /-- Raised by a mode 0 interrupt whose byte is not a one-byte instruction (R457). Safe. -/
  | mode0MultiByte
  /-- Raised by no step: the fetch always supplies the bytes the decoder asks for. Safe. -/
  | decodeTruncated
deriving DecidableEq, Repr

/-- Why an instruction has no meaning here. -/
inductive Refusal where
  /-- Raised by an arm of `exec` that has no meaning yet; no arm raises it. Safe. -/
  | notModelled (mnemonic : String)
deriving DecidableEq, Repr

/-- All bits zero (R50). -/
def Bank.zero : Bank where
  a := 0
  f := 0
  b := 0
  c := 0
  d := 0
  e := 0
  h := 0
  l := 0

/-- The platform of `State.reset` (log 1, 2, 3, 4, 28). -/
def Platform.initial : Platform where
  variant := .tsk80aD
  im2Vector := .direct
  intAckClearsIFF2 := false
  memMap := []
  finalByteM1 := true

/-- The machine right after reset (10_state.md R50, 70_reset_and_hazards.md R490). The values of
`platform`, `debugStopped`, `debugEnable`, the input lists and `draws` are the model's (log 1 to 11). -/
def State.reset : State where
  main := Bank.zero
  alt := Bank.zero
  ix := 0
  iy := 0
  sp := 0
  pc := 0
  ireg := 0
  iff1 := false
  iff2 := false
  im := .im0
  eiShadow := false
  nmiPending := false
  halted := false
  busGranted := false
  debugStopped := false
  mem := []
  platform := Platform.initial
  debugEnable := false
  inputs := []
  memDataIn := []
  sfrDataIn := []
  bus := []
  draws := 0

end Sys2Proof.Machine
end

