-- ==== Sys2Proof/Machine/Flags.lean ====
section
/-! DEFINITION. The flag register and every flag computation of the spec. Results and flags are computed
in exact integers and narrowed at the end, as the rules write them. -/

namespace Sys2Proof.Machine

/-- The six named flags (10_state.md R30). -/
structure Flags where
  s : Bool
  z : Bool
  h : Bool
  pv : Bool
  n : Bool
  c : Bool
deriving DecidableEq, Repr

/-- The named flags of a byte of `F`: S 7, Z 6, H 4, P/V 2, N 1, C 0 (R30, D2; log 17). -/
def Flags.ofByte (f : Byte) : Flags where
  s := f.getLsbD 7
  z := f.getLsbD 6
  h := f.getLsbD 4
  pv := f.getLsbD 2
  n := f.getLsbD 1
  c := f.getLsbD 0

/-- The byte of `F` with the named flags and bits 5 and 3 (R30). -/
def Flags.pack (fl : Flags) (f5 f3 : Bool) : Byte :=
  BitVec.ofBool fl.s ++ BitVec.ofBool fl.z ++ BitVec.ofBool f5 ++ BitVec.ofBool fl.h ++
    BitVec.ofBool f3 ++ BitVec.ofBool fl.pv ++ BitVec.ofBool fl.n ++ BitVec.ofBool fl.c

/-- An integer outside the range of 8-bit signed numbers (R35, D5; log 18). -/
def overflow8 (x : Int) : Bool := decide (x < -128) || decide (127 < x)

/-- An integer outside the range of 16-bit signed numbers (R35, D5; log 18). -/
def overflow16 (x : Int) : Bool := decide (x < -32768) || decide (32767 < x)

/-- The result of `add8` (40_arith8.md R130). -/
def add8 (a b : Byte) (cin : Bool) : Byte := BitVec.ofNat 8 (a.toNat + b.toNat + cin.toNat)

/-- The flags of `add8` (R130; half-carry D23, log 19). -/
def add8Flags (a b : Byte) (cin : Bool) : Flags where
  s := (add8 a b cin).msb
  z := add8 a b cin == 0
  h := decide (15 < a.toNat % 16 + b.toNat % 16 + cin.toNat)
  pv := overflow8 (a.toInt + b.toInt + cin.toNat)
  n := false
  c := decide (255 < a.toNat + b.toNat + cin.toNat)

/-- The result of `sub8` (R131). -/
def sub8 (a b : Byte) (cin : Bool) : Byte :=
  BitVec.ofInt 8 ((a.toNat : Int) - b.toNat - cin.toNat)

/-- The flags of `sub8` (R131; half-carry D23, log 19). -/
def sub8Flags (a b : Byte) (cin : Bool) : Flags where
  s := (sub8 a b cin).msb
  z := sub8 a b cin == 0
  h := decide (a.toNat % 16 < b.toNat % 16 + cin.toNat)
  pv := overflow8 (a.toInt - b.toInt - cin.toNat)
  n := true
  c := decide (a.toNat < b.toNat + cin.toNat)

/-- The result of `inc8` (R132). -/
def inc8 (v : Byte) : Byte := v + 1

/-- The flags of `inc8`: C keeps its value (R132). -/
def inc8Flags (v : Byte) (old : Flags) : Flags where
  s := (inc8 v).msb
  z := inc8 v == 0
  h := v.toNat % 16 == 15
  pv := v == 0x7F
  n := false
  c := old.c

/-- The result of `dec8` (R133). -/
def dec8 (v : Byte) : Byte := v - 1

/-- The flags of `dec8`: C keeps its value (R133). -/
def dec8Flags (v : Byte) (old : Flags) : Flags where
  s := (dec8 v).msb
  z := dec8 v == 0
  h := v.toNat % 16 == 0
  pv := v == 0x80
  n := true
  c := old.c

/-- `logic_flags(r, h)` (42_logic.md R190). -/
def logicFlags (r : Byte) (h : Bool) : Flags where
  s := r.msb
  z := r == 0
  h := h
  pv := parityEven r
  n := false
  c := false

/-- What an operation of the 8-bit group leaves in `A`; `CP` leaves `A` as it is (R135 to R150,
R191 to R206). -/
def aluResult (op : Alu) (a v : Byte) (cy : Bool) : Byte :=
  match op with
  | .add => add8 a v false
  | .adc => add8 a v cy
  | .sub => sub8 a v false
  | .sbc => sub8 a v cy
  | .and => a &&& v
  | .xor => a ^^^ v
  | .or => a ||| v
  | .cp => a

/-- The flags of an operation of the 8-bit group. -/
def aluFlags (op : Alu) (a v : Byte) (cy : Bool) : Flags :=
  match op with
  | .add => add8Flags a v false
  | .adc => add8Flags a v cy
  | .sub => sub8Flags a v false
  | .sbc => sub8Flags a v cy
  | .and => logicFlags (a &&& v) true
  | .xor => logicFlags (a ^^^ v) false
  | .or => logicFlags (a ||| v) false
  | .cp => sub8Flags a v false

/-- The result of `adc16` (41_arith16.md R170). -/
def adc16 (a b : Word) (cin : Bool) : Word := BitVec.ofNat 16 (a.toNat + b.toNat + cin.toNat)

/-- The flags of `adc16` (R170). -/
def adc16Flags (a b : Word) (cin : Bool) : Flags where
  s := (adc16 a b cin).msb
  z := adc16 a b cin == 0
  h := decide (4095 < a.toNat % 4096 + b.toNat % 4096 + cin.toNat)
  pv := overflow16 (a.toInt + b.toInt + cin.toNat)
  n := false
  c := decide (65535 < a.toNat + b.toNat + cin.toNat)

/-- The result of `sbc16` (R171). -/
def sbc16 (a b : Word) (cin : Bool) : Word :=
  BitVec.ofInt 16 ((a.toNat : Int) - b.toNat - cin.toNat)

/-- The flags of `sbc16` (R171). -/
def sbc16Flags (a b : Word) (cin : Bool) : Flags where
  s := (sbc16 a b cin).msb
  z := sbc16 a b cin == 0
  h := decide (a.toNat % 4096 < b.toNat % 4096 + cin.toNat)
  pv := overflow16 (a.toInt - b.toInt - cin.toNat)
  n := true
  c := decide (a.toNat < b.toNat + cin.toNat)

/-- The result of `add16` (R172). -/
def add16 (a b : Word) : Word := BitVec.ofNat 16 (a.toNat + b.toNat)

/-- The flags of `add16`: S, Z and P/V keep their values (R172). -/
def add16Flags (a b : Word) (old : Flags) : Flags :=
  { old with
    h := decide (4095 < a.toNat % 4096 + b.toNat % 4096)
    n := false
    c := decide (65535 < a.toNat + b.toNat) }

/-- The low part of the correction of `DAA` (45_general_control.md R281). -/
def daaLow (a : Byte) (fl : Flags) : Nat := if 9 < a.toNat % 16 ∨ fl.h = true then 0x06 else 0

/-- Whether a high digit 9 is corrected too: the rows of R281 with low nibble A-F, but for the one
irregular cell N = 0, C H = 0 1 (log 32). -/
def daaWide (a : Byte) (fl : Flags) : Bool := decide (9 < a.toNat % 16) && (fl.n || !fl.h)

/-- Whether the correction of `DAA` has a high part, which is also C afterwards (R281). -/
def daaCarry (a : Byte) (fl : Flags) : Bool :=
  fl.c || decide (9 < a.toNat / 16) || (decide (a.toNat / 16 = 9) && daaWide a fl)

/-- The corrective adjustment of `DAA` (R281). -/
def daaAdjust (a : Byte) (fl : Flags) : Nat := daaLow a fl + (if daaCarry a fl then 0x60 else 0)

/-- The result of `DAA` (R281). -/
def daaResult (a : Byte) (fl : Flags) : Byte :=
  if fl.n then a - BitVec.ofNat 8 (daaAdjust a fl) else a + BitVec.ofNat 8 (daaAdjust a fl)

/-- The flags of `DAA`; `h` is the free value of D6 (R281; log 7). -/
def daaFlags (a : Byte) (fl : Flags) (h : Bool) : Flags where
  s := (daaResult a fl).msb
  z := daaResult a fl == 0
  h := h
  pv := parityEven (daaResult a fl)
  n := fl.n
  c := daaCarry a fl

/-- The flags of `NEG` (R283). -/
def negFlags (a : Byte) : Flags where
  s := (0 - a).msb
  z := 0 - a == 0
  h := a.toNat % 16 != 0
  pv := a == 0x80
  n := true
  c := a != 0

/-- The result of a CB rotate or shift of `v` with incoming carry `cy` (47_rotate_shift_bit.md
R335 to R362). -/
def rotResult (op : Rot) (v : Byte) (cy : Bool) : Byte :=
  match op with
  | .rlc => BitVec.ofNat 8 (v.toNat * 2 % 256 + (v.getLsbD 7).toNat)
  | .rl => BitVec.ofNat 8 (v.toNat * 2 % 256 + cy.toNat)
  | .rrc => BitVec.ofNat 8 (v.toNat / 2 + 128 * (v.getLsbD 0).toNat)
  | .rr => BitVec.ofNat 8 (v.toNat / 2 + 128 * cy.toNat)
  | .sla => BitVec.ofNat 8 (v.toNat * 2 % 256)
  | .sra => BitVec.ofNat 8 (v.toNat / 2 + 128 * (v.getLsbD 7).toNat)
  | .srl => BitVec.ofNat 8 (v.toNat / 2)

/-- The bit a rotate or shift moves out (R335 to R362). -/
def rotOut (op : Rot) (v : Byte) : Bool :=
  match op with
  | .rlc => v.getLsbD 7
  | .rl => v.getLsbD 7
  | .sla => v.getLsbD 7
  | .rrc => v.getLsbD 0
  | .rr => v.getLsbD 0
  | .sra => v.getLsbD 0
  | .srl => v.getLsbD 0

/-- `shift_flags(r, c)` (R330). -/
def shiftFlags (r : Byte) (c : Bool) : Flags where
  s := r.msb
  z := r == 0
  h := false
  pv := parityEven r
  n := false
  c := c

/-- The flags of the Accumulator rotates: S, Z and P/V keep their values (R331 to R334). -/
def accRotFlags (c : Bool) (old : Flags) : Flags := { old with h := false, n := false, c := c }

/-- The flags of `RLD`, `RRD` and `IN r,(C)`: S, Z and parity of `r`, C keeps its value (R363, R364,
48_io.md R391). -/
def dataFlags (r : Byte) (old : Flags) : Flags where
  s := r.msb
  z := r == 0
  h := false
  pv := parityEven r
  n := false
  c := old.c

/-- The flags of `BIT b,m` for the tested byte `v` (47_rotate_shift_bit.md, section 5). -/
def bitFlags (v : Byte) (b : BitVec 3) (old : Flags) : Flags where
  s := b == 7 && v.getLsbD 7
  z := !v.getLsbD b.toNat
  h := true
  pv := !v.getLsbD b.toNat
  n := false
  c := old.c

/-- The flags of `LD A,I` (43_load8.md R235). -/
def ldAIFlags (i : Byte) (iff2 : Bool) (old : Flags) : Flags where
  s := i.msb
  z := i == 0
  h := false
  pv := iff2
  n := false
  c := old.c

/-- The flags of `ld_step`; `bc` is the decremented counter (49_exchange_block.md, section 4). -/
def ldStepFlags (bc : Word) (old : Flags) : Flags :=
  { old with h := false, pv := bc != 0, n := false }

/-- The flags of `cp_step`; `bc` is the decremented counter (49_exchange_block.md, section 5). -/
def cpStepFlags (a v : Byte) (bc : Word) (old : Flags) : Flags where
  s := (a - v).msb
  z := a - v == 0
  h := decide (a.toNat % 16 < v.toNat % 16)
  pv := bc != 0
  n := true
  c := old.c

/-- The flags of the block I/O steps; `b` is the decremented counter (48_io.md, sections 3 and 4). -/
def ioStepFlags (b : Byte) (old : Flags) : Flags := { old with z := b == 0, n := true }

/-- `cond(ccc)` (30_encoding.md R99). -/
def condHolds (cc : Cond) (fl : Flags) : Bool :=
  match cc with
  | .nz => !fl.z
  | .z => fl.z
  | .nc => !fl.c
  | .c => fl.c
  | .po => !fl.pv
  | .pe => fl.pv
  | .p => !fl.s
  | .m => fl.s

/-- `cond` of the 2-bit code of `JR cc,e` (R99). -/
def cond4Holds (cc : Cond4) (fl : Flags) : Bool :=
  match cc with
  | .nz => !fl.z
  | .z => fl.z
  | .nc => !fl.c
  | .c => fl.c

end Sys2Proof.Machine
end

