-- ==== Sys2Proof/Machine/Ops.lean ====
section
/-! DEFINITION. The named operations over registers, memory, ports and the stack; interrupt entry and
reset as shared operations. A read is two definitions: the value it answers, and the state after it. -/

namespace Sys2Proof.Machine

/-! ### Memory contents -/

/-- The byte listed at `k`, if any. -/
def Memory.get? : Memory → Nat → Option Byte
  | [], _ => none
  | (a, v) :: m, k => if a = k then some v else Memory.get? m k

/-- The contents with `v` at `k`, addresses kept rising. -/
def Memory.set : Memory → Nat → Byte → Memory
  | [], k, v => [(k, v)]
  | (a, w) :: m, k, v =>
    if k < a then (k, v) :: (a, w) :: m
    else if k = a then (k, v) :: m
    else (a, w) :: Memory.set m k v

/-- The addresses listed from `k` on are strictly rising and below 65536. -/
def Memory.risingFrom : Nat → Memory → Bool
  | _, [] => true
  | k, (a, _) :: m => decide (k ≤ a) && decide (a < 65536) && Memory.risingFrom (a + 1) m

/-- The canonical form: addresses strictly rising, all of them addresses (R42). An unlisted address has
no value in the list, so no entry can repeat it (log 5). -/
def Memory.wf (m : Memory) : Bool := Memory.risingFrom 0 m

/-! ### Registers -/

/-- `x[i]` of 00_scope.md R11. -/
def State.reg (s : State) (r : Reg8) : Byte :=
  match r with
  | .b => s.main.b
  | .c => s.main.c
  | .d => s.main.d
  | .e => s.main.e
  | .h => s.main.h
  | .l => s.main.l
  | .a => s.main.a

/-- `x[i] <- v` of R11. -/
def State.setReg (s : State) (r : Reg8) (v : Byte) : State :=
  match r with
  | .b => { s with main := { s.main with b := v } }
  | .c => { s with main := { s.main with c := v } }
  | .d => { s with main := { s.main with d := v } }
  | .e => { s with main := { s.main with e := v } }
  | .h => { s with main := { s.main with h := v } }
  | .l => { s with main := { s.main with l := v } }
  | .a => { s with main := { s.main with a := v } }

/-- `BC` (10_state.md R22). -/
def State.bc (s : State) : Word := join s.main.b s.main.c

/-- `DE` (R22). -/
def State.de (s : State) : Word := join s.main.d s.main.e

/-- `HL` (R22). -/
def State.hl (s : State) : Word := join s.main.h s.main.l

/-- `AF`, `A` the high-order byte (R22). -/
def State.af (s : State) : Word := join s.main.a s.main.f

/-- `BC <- w` (R11). -/
def State.setBc (s : State) (w : Word) : State := { s with main := { s.main with b := hi w, c := lo w } }

/-- `DE <- w` (R11). -/
def State.setDe (s : State) (w : Word) : State := { s with main := { s.main with d := hi w, e := lo w } }

/-- `HL <- w` (R11). -/
def State.setHl (s : State) (w : Word) : State := { s with main := { s.main with h := hi w, l := lo w } }

/-- `AF <- w`: all eight bits of `F` (R11, R32). -/
def State.setAf (s : State) (w : Word) : State := { s with main := { s.main with a := hi w, f := lo w } }

/-- `A <- v`. -/
def State.setA (s : State) (v : Byte) : State := { s with main := { s.main with a := v } }

/-- `B <- v`. -/
def State.setB (s : State) (v : Byte) : State := { s with main := { s.main with b := v } }

/-- `SP <- w`. -/
def State.setSp (s : State) (w : Word) : State := { s with sp := w }

/-- `pc <- w` (R13). -/
def State.setPc (s : State) (w : Word) : State := { s with pc := w }

/-- `rp[p]` (R11, 30_encoding.md R97). -/
def State.pair (s : State) (p : Pair) : Word :=
  match p with
  | .bc => s.bc
  | .de => s.de
  | .hl => s.hl
  | .sp => s.sp

/-- `rp[p] <- w`. -/
def State.setPair (s : State) (p : Pair) (w : Word) : State :=
  match p with
  | .bc => s.setBc w
  | .de => s.setDe w
  | .hl => s.setHl w
  | .sp => s.setSp w

/-- `rp2[q]` (R11, 30_encoding.md R98). -/
def State.pairQ (s : State) (q : PairQ) : Word :=
  match q with
  | .bc => s.bc
  | .de => s.de
  | .hl => s.hl
  | .af => s.af

/-- `rp2[q] <- w`. -/
def State.setPairQ (s : State) (q : PairQ) (w : Word) : State :=
  match q with
  | .bc => s.setBc w
  | .de => s.setDe w
  | .hl => s.setHl w
  | .af => s.setAf w

/-- `XY` (R11). -/
def State.idx (s : State) (x : Idx) : Word :=
  match x with
  | .ix => s.ix
  | .iy => s.iy

/-- `XY <- w`. -/
def State.setIdx (s : State) (x : Idx) (w : Word) : State :=
  match x with
  | .ix => { s with ix := w }
  | .iy => { s with iy := w }

/-- The source of `ADD XY,pp` (R174, R175). -/
def State.pairX (s : State) (x : Idx) (p : PairX) : Word :=
  match p with
  | .bc => s.bc
  | .de => s.de
  | .self => s.idx x
  | .sp => s.sp

/-! ### Flags -/

/-- The named flags of `F`. -/
def State.flags (s : State) : Flags := Flags.ofByte s.main.f

/-- Writes the named flags; bits 5 and 3 become the given values. -/
def State.putFlagsWith (s : State) (fl : Flags) (f5 f3 : Bool) : State :=
  { s with main := { s.main with f := fl.pack f5 f3 } }

/-- Writes the named flags; bits 5 and 3 become free values (R32, D3; log 6). -/
def State.putFlags (s : State) (fl : Flags) : State :=
  { s.putFlagsWith fl (Config.freeBit s.draws) (Config.freeBit (s.draws + 1)) with draws := s.draws + 2 }

/-! ### Memory accesses -/

/-- Adds an access to the record (R67, R68). -/
def State.note (s : State) (e : BusEvent) : State := { s with bus := e :: s.bus }

/-- What a list of regions says of an address: the first region that holds it, else RAM. -/
def kindIn : List Region → Nat → MemKind
  | [], _ => .ram
  | r :: rs, a => if r.base ≤ a ∧ a < r.base + r.size then r.kind else kindIn rs a

/-- `MemMap` (20_memory.md R76). -/
def State.kindAt (s : State) (a : Word) : MemKind := kindIn s.platform.memMap a.toNat

/-- The content of a memory byte: what was written there, else the free initial content (R76). -/
def State.peek (s : State) (a : Word) : Byte :=
  (Memory.get? s.mem a.toNat).getD (Config.initialByte a.toNat)

/-- Whether memory answers a read at this address, rather than a device or nothing (R76). -/
def holdsData (k : MemKind) : Bool :=
  match k with
  | .ram => true
  | .rom => true
  | .absent => false
  | .device => false

/-- The byte a read cycle at `a` takes from `MEMDATAI` (R76): the content of RAM or ROM, or what a
device or nothing answers (log 9). -/
def State.memIn (s : State) (a : Word) : Byte :=
  if holdsData (s.kindAt a) then s.peek a else s.memDataIn.headD (Config.freeByte s.draws)

/-- The inputs after a read cycle at `a`: a device's answer is used up, or a free value was drawn. -/
def State.tookMemData (s : State) (a : Word) : State :=
  if holdsData (s.kindAt a) then s
  else
    match s.memDataIn with
    | [] => { s with draws := s.draws + 1 }
    | _ :: rest => { s with memDataIn := rest }

/-- The state after `MemRead(a, 1)` (00_scope.md R12). -/
def State.memRead (s : State) (a : Word) : State := (s.tookMemData a).note (.memRead a (s.memIn a))

/-- The content after a write of `v` at `a`: only RAM takes it (R76). -/
def State.poke (s : State) (a : Word) (v : Byte) : State :=
  match s.kindAt a with
  | .ram => { s with mem := Memory.set s.mem a.toNat v }
  | .rom => s
  | .absent => s
  | .device => s

/-- `MemWrite(a, 1, v)` (R12). -/
def State.memWrite (s : State) (a : Word) (v : Byte) : State := (s.poke a v).note (.memWrite a v)

/-- The value of `MemRead(a, 2)`: low byte first (R12, R60). -/
def State.memIn16 (s : State) (a : Word) : Word := join ((s.memRead a).memIn (a + 1)) (s.memIn a)

/-- The state after `MemRead(a, 2)`. -/
def State.memRead16 (s : State) (a : Word) : State := (s.memRead a).memRead (a + 1)

/-- `MemWrite(a, 2, w)`: low byte first (R12, R60). -/
def State.memWrite16 (s : State) (a w : Word) : State := (s.memWrite a (lo w)).memWrite (a + 1) (hi w)

/-- The byte the opcode fetch at `pc` reads is `memIn pc`; this is the state after `FetchOpcode()`
(30_encoding.md R91). -/
def State.fetchOpcode (s : State) : State :=
  { (s.tookMemData s.pc).note (.fetch s.pc (s.memIn s.pc)) with pc := s.pc + 1 }

/-- The state after `FetchOperand()` (30_encoding.md R92). -/
def State.fetchOperand (s : State) : State := { s.memRead s.pc with pc := s.pc + 1 }

/-- The state after the last byte of a DD CB or FD CB form is read: `FetchOpcode()` (D22) or
`FetchOperand()` (R92, R94), as the platform says (log 28). -/
def State.fetchFinal (s : State) : State := if s.platform.finalByteM1 then s.fetchOpcode else s.fetchOperand

/-! ### The stack -/

/-- `Push16(w)` (20_memory.md R70). -/
def State.push16 (s : State) (w : Word) : State :=
  ((s.memWrite (s.sp - 1) (hi w)).memWrite (s.sp - 2) (lo w)).setSp (s.sp - 2)

/-- The value `Pop16()` returns (20_memory.md R71). -/
def State.popIn (s : State) : Word := s.memIn16 s.sp

/-- The state after `Pop16()` (R71). -/
def State.pop16 (s : State) : State := (s.memRead16 s.sp).setSp (s.sp + 2)

/-! ### Ports -/

/-- The byte the next read takes from `SFRDATAI` (R76; log 9). -/
def State.sfrIn (s : State) : Byte := s.sfrDataIn.headD (Config.freeByte s.draws)

/-- The inputs after a byte was taken from `SFRDATAI`. -/
def State.tookSfrData (s : State) : State :=
  match s.sfrDataIn with
  | [] => { s with draws := s.draws + 1 }
  | _ :: rest => { s with sfrDataIn := rest }

/-- The state after `IORead(port)`, whose value is `sfrIn` (R66). -/
def State.ioRead (s : State) (port : Word) : State := s.tookSfrData.note (.ioRead port s.sfrIn)

/-- `IOWrite(port, v)` (R66). -/
def State.ioWrite (s : State) (port : Word) (v : Byte) : State := s.note (.ioWrite port v)

/-! ### Interrupt entry, return, reset -/

/-- Interrupt entry, the part every entry shares: the halt state and the `EI` shadow end, and `IFF1`
is cleared (60_exceptions.md R446, R454, R460). -/
def State.beginEntry (s : State) : State := { s with halted := false, eiShadow := false, iff1 := false }

/-- The part that saves `pc` and goes to the handler (R446, R458, R459). -/
def State.enterAt (s : State) (target : Word) : State := (s.push16 s.pc).setPc target

/-- `AcceptNMI()` (R446). -/
def State.acceptNmi (s : State) : State :=
  ({ s.beginEntry.note (.nmiCycle s.pc) with nmiPending := false, iff2 := s.iff1 }).enterAt 0x0066

/-- The acknowledge cycle `IntAck()`, whose byte is `sfrIn` (R453). -/
def State.intAck (s : State) : State := s.tookSfrData.note (.intAck s.pc s.sfrIn)

/-- The part of `AcceptINT` that all modes share (R454, R455). -/
def State.beginInt (s : State) : State :=
  { s.beginEntry.intAck with iff2 := s.iff2 && !s.platform.intAckClearsIFF2 }

/-- `Mode2(v)` (R459). That the indirect reading reads the table after the push, low byte first, is the general
knowledge R459 names (PRESUMED, log 41). -/
def State.mode2 (s : State) (v : Byte) : State :=
  match s.platform.im2Vector with
  | .direct => s.enterAt (join s.ireg v)
  | .indirect =>
    ((s.push16 s.pc).memRead16 (join s.ireg v)).setPc ((s.push16 s.pc).memIn16 (join s.ireg v))

/-- The return every return instruction shares: `pc <- Pop16()` (46_jump_call_return.md R310, R312,
R313). -/
def State.popPc (s : State) : State := s.pop16.setPc s.popIn

/-- `Reset()` (70_reset_and_hazards.md R490): registers and hidden bits as in 10_state.md R50; memory
and everything outside the core are not touched; `debug_stopped` is what the host decides (log 10). -/
def State.doReset (s : State) (stopped : Bool) : State :=
  { State.reset with
    debugStopped := stopped && s.platform.variant == .tsk80aD
    mem := s.mem
    platform := s.platform
    debugEnable := s.debugEnable
    inputs := s.inputs
    memDataIn := s.memDataIn
    sfrDataIn := s.sfrDataIn
    bus := s.bus
    draws := s.draws }

/-- The state in which the debug unit holds the processor (R482): `raise DebugStop`. -/
def State.debugStop (s : State) : State := { s with debugStopped := true }

end Sys2Proof.Machine
end

