-- ==== Sys2Proof/Machine/Operands.lean ====
section
/-! DEFINITION. The operand forms of the instructions (40_arith8.md R134, 20_memory.md R66, R75). -/

namespace Sys2Proof.Machine

/-- Where a byte operand is: a register, the instruction, or memory at an address. -/
inductive Operand where
  | reg (r : Reg8)
  | imm (n : Byte)
  | mem (a : Word)
deriving DecidableEq, Repr

/-- The effective address of `(XY+d)` (20_memory.md R75). -/
def State.ea (s : State) (x : Idx) (d : Byte) : Word := s.idx x + sext16 d

/-- The value of a byte operand (R134). -/
def State.operand (s : State) (o : Operand) : Byte :=
  match o with
  | .reg r => s.reg r
  | .imm n => n
  | .mem a => s.memIn a

/-- The state after the operand's accesses: one read of a memory operand, none otherwise (R134). -/
def State.operandRead (s : State) (o : Operand) : State :=
  match o with
  | .reg _ => s
  | .imm _ => s
  | .mem a => s.memRead a

/-- The port address of the forms through `C` (20_memory.md R66). -/
def State.portBC (s : State) : Word := join s.main.b s.main.c

/-- The port address of the immediate forms (20_memory.md R66). -/
def State.portAN (s : State) (n : Byte) : Word := join s.main.a n

/-- `1 shifted left by bbb` (47_rotate_shift_bit.md R369). -/
def bitMask (b : BitVec 3) : Byte := 1 <<< b.toNat

end Sys2Proof.Machine
end

