-- ==== Sys2Proof/Machine/Arith16.lean ====
section
/-! DEFINITION. 16-bit arithmetic (41_arith16.md R173 to R181). -/

namespace Sys2Proof.Machine


/-- `INC pp` (R178). -/
def execIncPp (p : Pair) (s : State) : Host.Outcome State Fault Refusal :=
  .next (s.setPair p (s.pair p + 1))

/-- `DEC pp` (R180). -/
def execDecPp (p : Pair) (s : State) : Host.Outcome State Fault Refusal :=
  .next (s.setPair p (s.pair p - 1))

/-- `ADD HL,pp` (R173). -/
def execAddHlPp (p : Pair) (s : State) : Host.Outcome State Fault Refusal :=
  .next ((s.setHl (add16 s.hl (s.pair p))).putFlags (add16Flags s.hl (s.pair p) s.flags))

/-- `SBC HL,pp` (R177). -/
def execSbcHlPp (p : Pair) (s : State) : Host.Outcome State Fault Refusal :=
  .next ((s.setHl (sbc16 s.hl (s.pair p) s.flags.c)).putFlags (sbc16Flags s.hl (s.pair p) s.flags.c))

/-- `ADC HL,pp` (R176). -/
def execAdcHlPp (p : Pair) (s : State) : Host.Outcome State Fault Refusal :=
  .next ((s.setHl (adc16 s.hl (s.pair p) s.flags.c)).putFlags (adc16Flags s.hl (s.pair p) s.flags.c))

/-- `ADD IX,pp` (R174). -/
def execAddIxPp (p : PairX) (s : State) : Host.Outcome State Fault Refusal :=
  .next ((s.setIdx .ix (add16 s.ix (s.pairX .ix p))).putFlags (add16Flags s.ix (s.pairX .ix p) s.flags))

/-- `INC IX` (R179). -/
def execIncIx (s : State) : Host.Outcome State Fault Refusal :=
  .next (s.setIdx .ix (s.ix + 1))

/-- `DEC IX` (R181). -/
def execDecIx (s : State) : Host.Outcome State Fault Refusal :=
  .next (s.setIdx .ix (s.ix - 1))

/-- `ADD IY,pp` (R175). -/
def execAddIyPp (p : PairX) (s : State) : Host.Outcome State Fault Refusal :=
  .next ((s.setIdx .iy (add16 s.iy (s.pairX .iy p))).putFlags (add16Flags s.iy (s.pairX .iy p) s.flags))

/-- `INC IY` (R179). -/
def execIncIy (s : State) : Host.Outcome State Fault Refusal :=
  .next (s.setIdx .iy (s.iy + 1))

/-- `DEC IY` (R181). -/
def execDecIy (s : State) : Host.Outcome State Fault Refusal :=
  .next (s.setIdx .iy (s.iy - 1))

end Sys2Proof.Machine
end

