-- ==== Sys2Proof/Machine/Arith8.lean ====
section
/-! DEFINITION. 8-bit addition, subtraction, increment and decrement (40_arith8.md R135 to R158). -/

namespace Sys2Proof.Machine

/-- An operation of the 8-bit group on `A` and a byte operand (R135 to R150, R191 to R206). -/
def State.alu (s : State) (op : Alu) (o : Operand) : State :=
  ((s.operandRead o).setA (aluResult op s.main.a (s.operand o) s.flags.c)).putFlags
    (aluFlags op s.main.a (s.operand o) s.flags.c)

/-- A register is replaced by a value computed from it, with flags. -/
def State.changeReg (s : State) (r : Reg8) (v : Byte) (fl : Flags) : State := (s.setReg r v).putFlags fl

/-- A memory byte is read and written back at the same address, with flags (20_memory.md R65). -/
def State.changeMem (s : State) (a : Word) (v : Byte) (fl : Flags) : State :=
  ((s.memRead a).memWrite a v).putFlags fl

/-- `INC B` (R151). -/
def execIncB (s : State) : Host.Outcome State Fault Refusal :=
  .next (s.changeReg .b (inc8 s.main.b) (inc8Flags s.main.b s.flags))

/-- `DEC B` (R155). -/
def execDecB (s : State) : Host.Outcome State Fault Refusal :=
  .next (s.changeReg .b (dec8 s.main.b) (dec8Flags s.main.b s.flags))

/-- `INC C` (R151). -/
def execIncC (s : State) : Host.Outcome State Fault Refusal :=
  .next (s.changeReg .c (inc8 s.main.c) (inc8Flags s.main.c s.flags))

/-- `DEC C` (R155). -/
def execDecC (s : State) : Host.Outcome State Fault Refusal :=
  .next (s.changeReg .c (dec8 s.main.c) (dec8Flags s.main.c s.flags))

/-- `INC D` (R151). -/
def execIncD (s : State) : Host.Outcome State Fault Refusal :=
  .next (s.changeReg .d (inc8 s.main.d) (inc8Flags s.main.d s.flags))

/-- `DEC D` (R155). -/
def execDecD (s : State) : Host.Outcome State Fault Refusal :=
  .next (s.changeReg .d (dec8 s.main.d) (dec8Flags s.main.d s.flags))

/-- `INC E` (R151). -/
def execIncE (s : State) : Host.Outcome State Fault Refusal :=
  .next (s.changeReg .e (inc8 s.main.e) (inc8Flags s.main.e s.flags))

/-- `DEC E` (R155). -/
def execDecE (s : State) : Host.Outcome State Fault Refusal :=
  .next (s.changeReg .e (dec8 s.main.e) (dec8Flags s.main.e s.flags))

/-- `INC H` (R151). -/
def execIncH (s : State) : Host.Outcome State Fault Refusal :=
  .next (s.changeReg .h (inc8 s.main.h) (inc8Flags s.main.h s.flags))

/-- `DEC H` (R155). -/
def execDecH (s : State) : Host.Outcome State Fault Refusal :=
  .next (s.changeReg .h (dec8 s.main.h) (dec8Flags s.main.h s.flags))

/-- `INC L` (R151). -/
def execIncL (s : State) : Host.Outcome State Fault Refusal :=
  .next (s.changeReg .l (inc8 s.main.l) (inc8Flags s.main.l s.flags))

/-- `DEC L` (R155). -/
def execDecL (s : State) : Host.Outcome State Fault Refusal :=
  .next (s.changeReg .l (dec8 s.main.l) (dec8Flags s.main.l s.flags))

/-- `INC A` (R151). -/
def execIncA (s : State) : Host.Outcome State Fault Refusal :=
  .next (s.changeReg .a (inc8 s.main.a) (inc8Flags s.main.a s.flags))

/-- `DEC A` (R155). -/
def execDecA (s : State) : Host.Outcome State Fault Refusal :=
  .next (s.changeReg .a (dec8 s.main.a) (dec8Flags s.main.a s.flags))

/-- `INC (HL)` (R152). -/
def execIncAtHl (s : State) : Host.Outcome State Fault Refusal :=
  .next (s.changeMem s.hl (inc8 (s.memIn s.hl)) (inc8Flags (s.memIn s.hl) s.flags))

/-- `DEC (HL)` (R156). -/
def execDecAtHl (s : State) : Host.Outcome State Fault Refusal :=
  .next (s.changeMem s.hl (dec8 (s.memIn s.hl)) (dec8Flags (s.memIn s.hl) s.flags))

/-- `ADD A,B` (R135). -/
def execAddAB (s : State) : Host.Outcome State Fault Refusal :=
  .next (s.alu .add (.reg .b))

/-- `ADD A,C` (R135). -/
def execAddAC (s : State) : Host.Outcome State Fault Refusal :=
  .next (s.alu .add (.reg .c))

/-- `ADD A,D` (R135). -/
def execAddAD (s : State) : Host.Outcome State Fault Refusal :=
  .next (s.alu .add (.reg .d))

/-- `ADD A,E` (R135). -/
def execAddAE (s : State) : Host.Outcome State Fault Refusal :=
  .next (s.alu .add (.reg .e))

/-- `ADD A,H` (R135). -/
def execAddAH (s : State) : Host.Outcome State Fault Refusal :=
  .next (s.alu .add (.reg .h))

/-- `ADD A,L` (R135). -/
def execAddAL (s : State) : Host.Outcome State Fault Refusal :=
  .next (s.alu .add (.reg .l))

/-- `ADD A,A` (R135). -/
def execAddAA (s : State) : Host.Outcome State Fault Refusal :=
  .next (s.alu .add (.reg .a))

/-- `ADD A,(HL)` (R137). -/
def execAddAAtHl (s : State) : Host.Outcome State Fault Refusal :=
  .next (s.alu .add (.mem s.hl))

/-- `ADD A,n` (R136). -/
def execAddAN (n : Byte) (s : State) : Host.Outcome State Fault Refusal :=
  .next (s.alu .add (.imm n))

/-- `ADC A,B` (R139). -/
def execAdcAB (s : State) : Host.Outcome State Fault Refusal :=
  .next (s.alu .adc (.reg .b))

/-- `ADC A,C` (R139). -/
def execAdcAC (s : State) : Host.Outcome State Fault Refusal :=
  .next (s.alu .adc (.reg .c))

/-- `ADC A,D` (R139). -/
def execAdcAD (s : State) : Host.Outcome State Fault Refusal :=
  .next (s.alu .adc (.reg .d))

/-- `ADC A,E` (R139). -/
def execAdcAE (s : State) : Host.Outcome State Fault Refusal :=
  .next (s.alu .adc (.reg .e))

/-- `ADC A,H` (R139). -/
def execAdcAH (s : State) : Host.Outcome State Fault Refusal :=
  .next (s.alu .adc (.reg .h))

/-- `ADC A,L` (R139). -/
def execAdcAL (s : State) : Host.Outcome State Fault Refusal :=
  .next (s.alu .adc (.reg .l))

/-- `ADC A,A` (R139). -/
def execAdcAA (s : State) : Host.Outcome State Fault Refusal :=
  .next (s.alu .adc (.reg .a))

/-- `ADC A,(HL)` (R141). -/
def execAdcAAtHl (s : State) : Host.Outcome State Fault Refusal :=
  .next (s.alu .adc (.mem s.hl))

/-- `ADC A,n` (R140). -/
def execAdcAN (n : Byte) (s : State) : Host.Outcome State Fault Refusal :=
  .next (s.alu .adc (.imm n))

/-- `SUB B` (R143). -/
def execSubB (s : State) : Host.Outcome State Fault Refusal :=
  .next (s.alu .sub (.reg .b))

/-- `SUB C` (R143). -/
def execSubC (s : State) : Host.Outcome State Fault Refusal :=
  .next (s.alu .sub (.reg .c))

/-- `SUB D` (R143). -/
def execSubD (s : State) : Host.Outcome State Fault Refusal :=
  .next (s.alu .sub (.reg .d))

/-- `SUB E` (R143). -/
def execSubE (s : State) : Host.Outcome State Fault Refusal :=
  .next (s.alu .sub (.reg .e))

/-- `SUB H` (R143). -/
def execSubH (s : State) : Host.Outcome State Fault Refusal :=
  .next (s.alu .sub (.reg .h))

/-- `SUB L` (R143). -/
def execSubL (s : State) : Host.Outcome State Fault Refusal :=
  .next (s.alu .sub (.reg .l))

/-- `SUB A` (R143). -/
def execSubA (s : State) : Host.Outcome State Fault Refusal :=
  .next (s.alu .sub (.reg .a))

/-- `SUB (HL)` (R145). -/
def execSubAtHl (s : State) : Host.Outcome State Fault Refusal :=
  .next (s.alu .sub (.mem s.hl))

/-- `SUB n` (R144). -/
def execSubN (n : Byte) (s : State) : Host.Outcome State Fault Refusal :=
  .next (s.alu .sub (.imm n))

/-- `SBC A,B` (R147). -/
def execSbcAB (s : State) : Host.Outcome State Fault Refusal :=
  .next (s.alu .sbc (.reg .b))

/-- `SBC A,C` (R147). -/
def execSbcAC (s : State) : Host.Outcome State Fault Refusal :=
  .next (s.alu .sbc (.reg .c))

/-- `SBC A,D` (R147). -/
def execSbcAD (s : State) : Host.Outcome State Fault Refusal :=
  .next (s.alu .sbc (.reg .d))

/-- `SBC A,E` (R147). -/
def execSbcAE (s : State) : Host.Outcome State Fault Refusal :=
  .next (s.alu .sbc (.reg .e))

/-- `SBC A,H` (R147). -/
def execSbcAH (s : State) : Host.Outcome State Fault Refusal :=
  .next (s.alu .sbc (.reg .h))

/-- `SBC A,L` (R147). -/
def execSbcAL (s : State) : Host.Outcome State Fault Refusal :=
  .next (s.alu .sbc (.reg .l))

/-- `SBC A,A` (R147). -/
def execSbcAA (s : State) : Host.Outcome State Fault Refusal :=
  .next (s.alu .sbc (.reg .a))

/-- `SBC A,(HL)` (R149). -/
def execSbcAAtHl (s : State) : Host.Outcome State Fault Refusal :=
  .next (s.alu .sbc (.mem s.hl))

/-- `SBC A,n` (R148). -/
def execSbcAN (n : Byte) (s : State) : Host.Outcome State Fault Refusal :=
  .next (s.alu .sbc (.imm n))

/-- `INC (IX+d)` (R153). -/
def execIncAtIxd (d : Byte) (s : State) : Host.Outcome State Fault Refusal :=
  .next (s.changeMem (s.ea .ix d) (inc8 (s.memIn (s.ea .ix d))) (inc8Flags (s.memIn (s.ea .ix d)) s.flags))

/-- `DEC (IX+d)` (R157). -/
def execDecAtIxd (d : Byte) (s : State) : Host.Outcome State Fault Refusal :=
  .next (s.changeMem (s.ea .ix d) (dec8 (s.memIn (s.ea .ix d))) (dec8Flags (s.memIn (s.ea .ix d)) s.flags))

/-- `ADD A,(IX+d)` (R138). -/
def execAddAAtIxd (d : Byte) (s : State) : Host.Outcome State Fault Refusal :=
  .next (s.alu .add (.mem (s.ea .ix d)))

/-- `ADC A,(IX+d)` (R142). -/
def execAdcAAtIxd (d : Byte) (s : State) : Host.Outcome State Fault Refusal :=
  .next (s.alu .adc (.mem (s.ea .ix d)))

/-- `SUB (IX+d)` (R146). -/
def execSubAtIxd (d : Byte) (s : State) : Host.Outcome State Fault Refusal :=
  .next (s.alu .sub (.mem (s.ea .ix d)))

/-- `SBC A,(IX+d)` (R150). -/
def execSbcAAtIxd (d : Byte) (s : State) : Host.Outcome State Fault Refusal :=
  .next (s.alu .sbc (.mem (s.ea .ix d)))

/-- `INC (IY+d)` (R154). -/
def execIncAtIyd (d : Byte) (s : State) : Host.Outcome State Fault Refusal :=
  .next (s.changeMem (s.ea .iy d) (inc8 (s.memIn (s.ea .iy d))) (inc8Flags (s.memIn (s.ea .iy d)) s.flags))

/-- `DEC (IY+d)` (R158). -/
def execDecAtIyd (d : Byte) (s : State) : Host.Outcome State Fault Refusal :=
  .next (s.changeMem (s.ea .iy d) (dec8 (s.memIn (s.ea .iy d))) (dec8Flags (s.memIn (s.ea .iy d)) s.flags))

/-- `ADD A,(IY+d)` (R138). -/
def execAddAAtIyd (d : Byte) (s : State) : Host.Outcome State Fault Refusal :=
  .next (s.alu .add (.mem (s.ea .iy d)))

/-- `ADC A,(IY+d)` (R142). -/
def execAdcAAtIyd (d : Byte) (s : State) : Host.Outcome State Fault Refusal :=
  .next (s.alu .adc (.mem (s.ea .iy d)))

/-- `SUB (IY+d)` (R146). -/
def execSubAtIyd (d : Byte) (s : State) : Host.Outcome State Fault Refusal :=
  .next (s.alu .sub (.mem (s.ea .iy d)))

/-- `SBC A,(IY+d)` (R150). -/
def execSbcAAtIyd (d : Byte) (s : State) : Host.Outcome State Fault Refusal :=
  .next (s.alu .sbc (.mem (s.ea .iy d)))

end Sys2Proof.Machine
end

