-- ==== Sys2Proof/Machine/BitOps.lean ====
section
/-! DEFINITION. `BIT`, `SET` and `RES` (47_rotate_shift_bit.md R365 to R376). -/

namespace Sys2Proof.Machine

/-- `BIT b,m` (section 5): the operand is read, only flags change. -/
def State.testBit (s : State) (b : BitVec 3) (o : Operand) : State :=
  (s.operandRead o).putFlags (bitFlags (s.operand o) b s.flags)

/-- `SET` on a memory byte (R370 to R372). -/
def State.setBitMem (s : State) (b : BitVec 3) (a : Word) : State :=
  (s.memRead a).memWrite a (s.memIn a ||| bitMask b)

/-- `RES` on a memory byte (R374 to R376). -/
def State.resBitMem (s : State) (b : BitVec 3) (a : Word) : State :=
  (s.memRead a).memWrite a (s.memIn a &&& (0xFF - bitMask b))

/-- `BIT b,B` (R365). -/
def execBitB (b : BitVec 3) (s : State) : Host.Outcome State Fault Refusal :=
  .next (s.testBit b (.reg .b))

/-- `BIT b,C` (R365). -/
def execBitC (b : BitVec 3) (s : State) : Host.Outcome State Fault Refusal :=
  .next (s.testBit b (.reg .c))

/-- `BIT b,D` (R365). -/
def execBitD (b : BitVec 3) (s : State) : Host.Outcome State Fault Refusal :=
  .next (s.testBit b (.reg .d))

/-- `BIT b,E` (R365). -/
def execBitE (b : BitVec 3) (s : State) : Host.Outcome State Fault Refusal :=
  .next (s.testBit b (.reg .e))

/-- `BIT b,H` (R365). -/
def execBitH (b : BitVec 3) (s : State) : Host.Outcome State Fault Refusal :=
  .next (s.testBit b (.reg .h))

/-- `BIT b,L` (R365). -/
def execBitL (b : BitVec 3) (s : State) : Host.Outcome State Fault Refusal :=
  .next (s.testBit b (.reg .l))

/-- `BIT b,A` (R365). -/
def execBitA (b : BitVec 3) (s : State) : Host.Outcome State Fault Refusal :=
  .next (s.testBit b (.reg .a))

/-- `BIT b,(HL)` (R366). -/
def execBitAtHl (b : BitVec 3) (s : State) : Host.Outcome State Fault Refusal :=
  .next (s.testBit b (.mem s.hl))

/-- `BIT b,(IX+d)` (R367). -/
def execBitAtIxd (b : BitVec 3) (d : Byte) (s : State) : Host.Outcome State Fault Refusal :=
  .next (s.testBit b (.mem (s.ea .ix d)))

/-- `BIT b,(IY+d)` (R368). -/
def execBitAtIyd (b : BitVec 3) (d : Byte) (s : State) : Host.Outcome State Fault Refusal :=
  .next (s.testBit b (.mem (s.ea .iy d)))

/-- `RES b,B` (R373). -/
def execResB (b : BitVec 3) (s : State) : Host.Outcome State Fault Refusal :=
  .next (s.setReg .b (s.main.b &&& (0xFF - bitMask b)))

/-- `RES b,C` (R373). -/
def execResC (b : BitVec 3) (s : State) : Host.Outcome State Fault Refusal :=
  .next (s.setReg .c (s.main.c &&& (0xFF - bitMask b)))

/-- `RES b,D` (R373). -/
def execResD (b : BitVec 3) (s : State) : Host.Outcome State Fault Refusal :=
  .next (s.setReg .d (s.main.d &&& (0xFF - bitMask b)))

/-- `RES b,E` (R373). -/
def execResE (b : BitVec 3) (s : State) : Host.Outcome State Fault Refusal :=
  .next (s.setReg .e (s.main.e &&& (0xFF - bitMask b)))

/-- `RES b,H` (R373). -/
def execResH (b : BitVec 3) (s : State) : Host.Outcome State Fault Refusal :=
  .next (s.setReg .h (s.main.h &&& (0xFF - bitMask b)))

/-- `RES b,L` (R373). -/
def execResL (b : BitVec 3) (s : State) : Host.Outcome State Fault Refusal :=
  .next (s.setReg .l (s.main.l &&& (0xFF - bitMask b)))

/-- `RES b,A` (R373). -/
def execResA (b : BitVec 3) (s : State) : Host.Outcome State Fault Refusal :=
  .next (s.setReg .a (s.main.a &&& (0xFF - bitMask b)))

/-- `RES b,(HL)` (R374). -/
def execResAtHl (b : BitVec 3) (s : State) : Host.Outcome State Fault Refusal :=
  .next (s.resBitMem b s.hl)

/-- `RES b,(IX+d)` (R375). -/
def execResAtIxd (b : BitVec 3) (d : Byte) (s : State) : Host.Outcome State Fault Refusal :=
  .next (s.resBitMem b (s.ea .ix d))

/-- `RES b,(IY+d)` (R376). -/
def execResAtIyd (b : BitVec 3) (d : Byte) (s : State) : Host.Outcome State Fault Refusal :=
  .next (s.resBitMem b (s.ea .iy d))

/-- `SET b,B` (R369). -/
def execSetB (b : BitVec 3) (s : State) : Host.Outcome State Fault Refusal :=
  .next (s.setReg .b (s.main.b ||| bitMask b))

/-- `SET b,C` (R369). -/
def execSetC (b : BitVec 3) (s : State) : Host.Outcome State Fault Refusal :=
  .next (s.setReg .c (s.main.c ||| bitMask b))

/-- `SET b,D` (R369). -/
def execSetD (b : BitVec 3) (s : State) : Host.Outcome State Fault Refusal :=
  .next (s.setReg .d (s.main.d ||| bitMask b))

/-- `SET b,E` (R369). -/
def execSetE (b : BitVec 3) (s : State) : Host.Outcome State Fault Refusal :=
  .next (s.setReg .e (s.main.e ||| bitMask b))

/-- `SET b,H` (R369). -/
def execSetH (b : BitVec 3) (s : State) : Host.Outcome State Fault Refusal :=
  .next (s.setReg .h (s.main.h ||| bitMask b))

/-- `SET b,L` (R369). -/
def execSetL (b : BitVec 3) (s : State) : Host.Outcome State Fault Refusal :=
  .next (s.setReg .l (s.main.l ||| bitMask b))

/-- `SET b,A` (R369). -/
def execSetA (b : BitVec 3) (s : State) : Host.Outcome State Fault Refusal :=
  .next (s.setReg .a (s.main.a ||| bitMask b))

/-- `SET b,(HL)` (R370). -/
def execSetAtHl (b : BitVec 3) (s : State) : Host.Outcome State Fault Refusal :=
  .next (s.setBitMem b s.hl)

/-- `SET b,(IX+d)` (R371). -/
def execSetAtIxd (b : BitVec 3) (d : Byte) (s : State) : Host.Outcome State Fault Refusal :=
  .next (s.setBitMem b (s.ea .ix d))

/-- `SET b,(IY+d)` (R372). -/
def execSetAtIyd (b : BitVec 3) (d : Byte) (s : State) : Host.Outcome State Fault Refusal :=
  .next (s.setBitMem b (s.ea .iy d))

end Sys2Proof.Machine
end

