-- ==== Sys2Proof/Machine/Control.lean ====
section
/-! DEFINITION. General-purpose arithmetic and CPU control, `TRAP` and the byte 64h (45_general_control.md
R280 to R296). -/

namespace Sys2Proof.Machine

/-- `DAA`: three free values are drawn, F5, F3 and H (R281, D3, D6; log 6, 7). -/
def State.decimalAdjust (s : State) : State :=
  { (s.setA (daaResult s.main.a s.flags)).putFlags
      (daaFlags s.main.a s.flags (Config.freeBit (s.draws + 2))) with draws := s.draws + 3 }

/-- `NOP` (R280). -/
def execNop (s : State) : Host.Outcome State Fault Refusal :=
  .next (s)

/-- `DAA` (R281). -/
def execDaa (s : State) : Host.Outcome State Fault Refusal :=
  .next (s.decimalAdjust)

/-- `CPL` (R282). -/
def execCpl (s : State) : Host.Outcome State Fault Refusal :=
  .next ((s.setA (s.main.a ^^^ 0xFF)).putFlags { s.flags with h := true, n := true })

/-- `SCF` (R285). -/
def execScf (s : State) : Host.Outcome State Fault Refusal :=
  .next (s.putFlags { s.flags with h := false, n := false, c := true })

/-- `CCF` (R284). -/
def execCcf (s : State) : Host.Outcome State Fault Refusal :=
  .next (s.putFlags { s.flags with h := s.flags.c, n := false, c := !s.flags.c })

/-- `HALT` (R286). -/
def execHalt (s : State) : Host.Outcome State Fault Refusal :=
  .next ({ s with halted := true })

/-- `DI` (R288). -/
def execDi (s : State) : Host.Outcome State Fault Refusal :=
  .next ({ s with iff1 := false, iff2 := false })

/-- `EI` (R287). -/
def execEi (s : State) : Host.Outcome State Fault Refusal :=
  .next ({ s with iff1 := true, iff2 := true, eiShadow := true })

/-- `NEG` (R283). -/
def execNeg (s : State) : Host.Outcome State Fault Refusal :=
  .next ((s.setA (0 - s.main.a)).putFlags (negFlags s.main.a))

/-- `IM 0` (R289). -/
def execIm0 (s : State) : Host.Outcome State Fault Refusal :=
  .next ({ s with im := .im0 })

/-- `IM 1` (R290). -/
def execIm1 (s : State) : Host.Outcome State Fault Refusal :=
  .next ({ s with im := .im1 })

/-- `IM 2` (R291). -/
def execIm2 (s : State) : Host.Outcome State Fault Refusal :=
  .next ({ s with im := .im2 })

/-- `TRAP` (R295): on the TSK80A_D a `NOP`, or, while `debugenable` is active, a debug stop with `pc`
left at the EDh byte. On the TSK80A the encoding is undefined and the decoder refuses it already. -/
def execTrap (s : State) : Host.Outcome State Fault Refusal :=
  match s.platform.variant with
  | .tsk80a => .fault .trapOnTsk80a
  | .tsk80aD => if s.debugEnable then .next (s.setPc (s.pc - 2)).debugStop else .next s

/-- The byte 64h (R296): on the TSK80A_D a debug stop with `pc` left at that byte; on the TSK80A, where
it decodes to `LD H,H`, nothing changes. -/
def execBreakpoint64 (s : State) : Host.Outcome State Fault Refusal :=
  match s.platform.variant with
  | .tsk80a => .next s
  | .tsk80aD => .next (s.setPc (s.pc - 1)).debugStop

end Sys2Proof.Machine
end

