-- ==== Sys2Proof/Machine/Exchange.lean ====
section
/-! DEFINITION. Exchanges, block transfer and search (49_exchange_block.md R410 to R424). -/

namespace Sys2Proof.Machine

/-- The accesses of `ex_sp(rr)`: two reads, then two writes, high byte first (section 2, D22). -/
def State.exchangeTop (s : State) (rr : Word) : State :=
  ((s.memRead16 s.sp).memWrite (s.sp + 1) (hi rr)).memWrite s.sp (lo rr)

/-- One pass that must be repeated sets `pc` back over the two bytes of its instruction (R424). -/
def State.repeatWhen (s : State) (again : Bool) : State := if again then s.setPc (s.pc - 2) else s

/-- `ld_step(dir)` (section 4). -/
def State.ldStep (s : State) (dir : Word) : State :=
  (((((s.memRead s.hl).memWrite s.de (s.memIn s.hl)).setHl (s.hl + dir)).setDe (s.de + dir)).setBc
    (s.bc - 1)).putFlags (ldStepFlags (s.bc - 1) s.flags)

/-- `cp_step(dir)` (section 5). -/
def State.cpStep (s : State) (dir : Word) : State :=
  (((s.memRead s.hl).setHl (s.hl + dir)).setBc (s.bc - 1)).putFlags
    (cpStepFlags s.main.a (s.memIn s.hl) (s.bc - 1) s.flags)

/-- Whether `LDIR` and `LDDR` repeat: the decremented counter is not zero (R417, R419). -/
def State.ldAgain (s : State) : Bool := s.bc - 1 != 0

/-- Whether `CPIR` and `CPDR` repeat: no match, and the decremented counter is not zero (R421, R423). -/
def State.cpAgain (s : State) : Bool := s.bc - 1 != 0 && s.main.a - s.memIn s.hl != 0

/-- `EX AF,AF'` (R411). -/
def execExAfAf (s : State) : Host.Outcome State Fault Refusal :=
  .next ({ s with main := { s.main with a := s.alt.a, f := s.alt.f }, alt := { s.alt with a := s.main.a, f := s.main.f } })

/-- `EXX` (R412). -/
def execExx (s : State) : Host.Outcome State Fault Refusal :=
  .next ({ s with
    main := { s.alt with a := s.main.a, f := s.main.f }
    alt := { s.main with a := s.alt.a, f := s.alt.f } })

/-- `EX (SP),HL` (R413). -/
def execExAtSpHl (s : State) : Host.Outcome State Fault Refusal :=
  .next ((s.exchangeTop s.hl).setHl s.popIn)

/-- `EX DE,HL` (R410). -/
def execExDeHl (s : State) : Host.Outcome State Fault Refusal :=
  .next ((s.setDe s.hl).setHl s.de)

/-- `LDI` (R416). -/
def execLdi (s : State) : Host.Outcome State Fault Refusal :=
  .next (s.ldStep 1)

/-- `CPI` (R420). -/
def execCpi (s : State) : Host.Outcome State Fault Refusal :=
  .next (s.cpStep 1)

/-- `LDD` (R418). -/
def execLdd (s : State) : Host.Outcome State Fault Refusal :=
  .next (s.ldStep (-1))

/-- `CPD` (R422). -/
def execCpd (s : State) : Host.Outcome State Fault Refusal :=
  .next (s.cpStep (-1))

/-- `LDIR` (R417). -/
def execLdir (s : State) : Host.Outcome State Fault Refusal :=
  .next ((s.ldStep 1).repeatWhen s.ldAgain)

/-- `CPIR` (R421). -/
def execCpir (s : State) : Host.Outcome State Fault Refusal :=
  .next ((s.cpStep 1).repeatWhen s.cpAgain)

/-- `LDDR` (R419). -/
def execLddr (s : State) : Host.Outcome State Fault Refusal :=
  .next ((s.ldStep (-1)).repeatWhen s.ldAgain)

/-- `CPDR` (R423). -/
def execCpdr (s : State) : Host.Outcome State Fault Refusal :=
  .next ((s.cpStep (-1)).repeatWhen s.cpAgain)

/-- `EX (SP),IX` (R414). -/
def execExAtSpIx (s : State) : Host.Outcome State Fault Refusal :=
  .next ((s.exchangeTop s.ix).setIdx .ix s.popIn)

/-- `EX (SP),IY` (R415). -/
def execExAtSpIy (s : State) : Host.Outcome State Fault Refusal :=
  .next ((s.exchangeTop s.iy).setIdx .iy s.popIn)

end Sys2Proof.Machine
end

