-- ==== Sys2Proof/Machine/Io.lean ====
section
/-! DEFINITION. Input and output (48_io.md R390 to R401). -/

namespace Sys2Proof.Machine

/-- `io_in_step(dir)` but for the flags: the port is addressed with the old `B` (section 3). -/
def State.ioInStep (s : State) (dir : Word) : State :=
  (((s.ioRead s.portBC).memWrite s.hl s.sfrIn).setHl (s.hl + dir)).setB (s.main.b - 1)

/-- `io_in_step(dir)` with F5 and F3 free (R395 to R397). -/
def State.ioIn (s : State) (dir : Word) : State :=
  (s.ioInStep dir).putFlags (ioStepFlags (s.main.b - 1) s.flags)

/-- `io_out_step(dir)`: the port is addressed with the decremented `B` (section 4). -/
def State.ioOut (s : State) (dir : Word) : State :=
  ((((s.memRead s.hl).setB (s.main.b - 1)).ioWrite (join (s.main.b - 1) s.main.c) (s.memIn s.hl)).setHl
    (s.hl + dir)).putFlags (ioStepFlags (s.main.b - 1) s.flags)

/-- Whether the repeating forms repeat: the decremented `B` is not zero (R395). -/
def State.ioAgain (s : State) : Bool := s.main.b - 1 != 0

/-- `OUT (n),A` (R392). -/
def execOutPortNA (n : Byte) (s : State) : Host.Outcome State Fault Refusal :=
  .next (s.ioWrite (s.portAN n) s.main.a)

/-- `IN A,(n)` (R390). -/
def execInAPortN (n : Byte) (s : State) : Host.Outcome State Fault Refusal :=
  .next ((s.ioRead (s.portAN n)).setA s.sfrIn)

/-- `IN B,(C)` (R391). -/
def execInBPortC (s : State) : Host.Outcome State Fault Refusal :=
  .next (((s.ioRead s.portBC).setReg .b s.sfrIn).putFlags (dataFlags s.sfrIn s.flags))

/-- `OUT (C),B` (R393). -/
def execOutPortCB (s : State) : Host.Outcome State Fault Refusal :=
  .next (s.ioWrite s.portBC s.main.b)

/-- `IN C,(C)` (R391). -/
def execInCPortC (s : State) : Host.Outcome State Fault Refusal :=
  .next (((s.ioRead s.portBC).setReg .c s.sfrIn).putFlags (dataFlags s.sfrIn s.flags))

/-- `OUT (C),C` (R393). -/
def execOutPortCC (s : State) : Host.Outcome State Fault Refusal :=
  .next (s.ioWrite s.portBC s.main.c)

/-- `IN D,(C)` (R391). -/
def execInDPortC (s : State) : Host.Outcome State Fault Refusal :=
  .next (((s.ioRead s.portBC).setReg .d s.sfrIn).putFlags (dataFlags s.sfrIn s.flags))

/-- `OUT (C),D` (R393). -/
def execOutPortCD (s : State) : Host.Outcome State Fault Refusal :=
  .next (s.ioWrite s.portBC s.main.d)

/-- `IN E,(C)` (R391). -/
def execInEPortC (s : State) : Host.Outcome State Fault Refusal :=
  .next (((s.ioRead s.portBC).setReg .e s.sfrIn).putFlags (dataFlags s.sfrIn s.flags))

/-- `OUT (C),E` (R393). -/
def execOutPortCE (s : State) : Host.Outcome State Fault Refusal :=
  .next (s.ioWrite s.portBC s.main.e)

/-- `IN H,(C)` (R391). -/
def execInHPortC (s : State) : Host.Outcome State Fault Refusal :=
  .next (((s.ioRead s.portBC).setReg .h s.sfrIn).putFlags (dataFlags s.sfrIn s.flags))

/-- `OUT (C),H` (R393). -/
def execOutPortCH (s : State) : Host.Outcome State Fault Refusal :=
  .next (s.ioWrite s.portBC s.main.h)

/-- `IN L,(C)` (R391). -/
def execInLPortC (s : State) : Host.Outcome State Fault Refusal :=
  .next (((s.ioRead s.portBC).setReg .l s.sfrIn).putFlags (dataFlags s.sfrIn s.flags))

/-- `OUT (C),L` (R393). -/
def execOutPortCL (s : State) : Host.Outcome State Fault Refusal :=
  .next (s.ioWrite s.portBC s.main.l)

/-- `IN A,(C)` (R391). -/
def execInAPortC (s : State) : Host.Outcome State Fault Refusal :=
  .next (((s.ioRead s.portBC).setReg .a s.sfrIn).putFlags (dataFlags s.sfrIn s.flags))

/-- `OUT (C),A` (R393). -/
def execOutPortCA (s : State) : Host.Outcome State Fault Refusal :=
  .next (s.ioWrite s.portBC s.main.a)

/-- `INI` (R394). -/
def execIni (s : State) : Host.Outcome State Fault Refusal :=
  .next ((s.ioInStep 1).putFlagsWith (ioStepFlags (s.main.b - 1) s.flags) ((s.main.b - 1).getLsbD 5)
    ((s.main.b - 1).getLsbD 3))

/-- `OUTI` (R398). -/
def execOuti (s : State) : Host.Outcome State Fault Refusal :=
  .next (s.ioOut 1)

/-- `IND` (R396). -/
def execInd (s : State) : Host.Outcome State Fault Refusal :=
  .next (s.ioIn (-1))

/-- `OUTD` (R400). -/
def execOutd (s : State) : Host.Outcome State Fault Refusal :=
  .next (s.ioOut (-1))

/-- `INIR` (R395). -/
def execInir (s : State) : Host.Outcome State Fault Refusal :=
  .next ((s.ioIn 1).repeatWhen s.ioAgain)

/-- `OTIR` (R399). -/
def execOtir (s : State) : Host.Outcome State Fault Refusal :=
  .next ((s.ioOut 1).repeatWhen s.ioAgain)

/-- `INDR` (R397). -/
def execIndr (s : State) : Host.Outcome State Fault Refusal :=
  .next ((s.ioIn (-1)).repeatWhen s.ioAgain)

/-- `OTDR` (R401). -/
def execOtdr (s : State) : Host.Outcome State Fault Refusal :=
  .next ((s.ioOut (-1)).repeatWhen s.ioAgain)

end Sys2Proof.Machine
end

