-- ==== Sys2Proof/Machine/Jump.lean ====
section
/-! DEFINITION. Jumps, calls, returns and restarts (46_jump_call_return.md R300 to R314). -/

namespace Sys2Proof.Machine

/-- A relative jump: `e` counts from the byte after the instruction (30_encoding.md R101). -/
def State.jumpRel (s : State) (e : Byte) : State := s.setPc (s.pc + sext16 e)

/-- `DJNZ e` (R307). -/
def execDjnzE (e : Byte) (s : State) : Host.Outcome State Fault Refusal :=
  .next (if s.main.b - 1 = 0 then s.setB (s.main.b - 1) else (s.setB (s.main.b - 1)).jumpRel e)

/-- `JR e` (R305). -/
def execJrE (e : Byte) (s : State) : Host.Outcome State Fault Refusal :=
  .next (s.jumpRel e)

/-- `JR cc,e` (R306). -/
def execJrCcE (cc : Cond4) (e : Byte) (s : State) : Host.Outcome State Fault Refusal :=
  .next (if cond4Holds cc s.flags then s.jumpRel e else s)

/-- `RET cc` (R311). -/
def execRetCc (cc : Cond) (s : State) : Host.Outcome State Fault Refusal :=
  .next (if condHolds cc s.flags then s.popPc else s)

/-- `JP cc,nn` (R301). -/
def execJpCcNn (cc : Cond) (nn : Word) (s : State) : Host.Outcome State Fault Refusal :=
  .next (if condHolds cc s.flags then s.setPc nn else s)

/-- `JP nn` (R300). -/
def execJpNn (nn : Word) (s : State) : Host.Outcome State Fault Refusal :=
  .next (s.setPc nn)

/-- `CALL cc,nn` (R309). -/
def execCallCcNn (cc : Cond) (nn : Word) (s : State) : Host.Outcome State Fault Refusal :=
  .next (if condHolds cc s.flags then s.enterAt nn else s)

/-- `RST p` (R314). -/
def execRstP (p : Byte) (s : State) : Host.Outcome State Fault Refusal :=
  .next (s.enterAt (join 0 p))

/-- `RET` (R310). -/
def execRet (s : State) : Host.Outcome State Fault Refusal :=
  .next (s.popPc)

/-- `CALL nn` (R308). -/
def execCallNn (nn : Word) (s : State) : Host.Outcome State Fault Refusal :=
  .next (s.enterAt nn)

/-- `JP (HL)` (R302). -/
def execJpHl (s : State) : Host.Outcome State Fault Refusal :=
  .next (s.setPc s.hl)

/-- `RETN` (R313). -/
def execRetn (s : State) : Host.Outcome State Fault Refusal :=
  .next ({ s.popPc with iff1 := s.iff2 })

/-- `RETI` (R312). -/
def execReti (s : State) : Host.Outcome State Fault Refusal :=
  .next (s.popPc)

/-- `JP (IX)` (R303). -/
def execJpIx (s : State) : Host.Outcome State Fault Refusal :=
  .next (s.setPc s.ix)

/-- `JP (IY)` (R304). -/
def execJpIy (s : State) : Host.Outcome State Fault Refusal :=
  .next (s.setPc s.iy)

end Sys2Proof.Machine
end

