-- ==== Sys2Proof/Machine/Load16.lean ====
section
/-! DEFINITION. The 16-bit loads, `PUSH` and `POP` (44_load16.md R250 to R268). -/

namespace Sys2Proof.Machine

/-- A pair is loaded from memory (R258, R259). -/
def State.loadPair (s : State) (p : Pair) (a : Word) : State := (s.memRead16 a).setPair p (s.memIn16 a)

/-- An index register is loaded from memory (R260, R261). -/
def State.loadIdx (s : State) (x : Idx) (a : Word) : State := (s.memRead16 a).setIdx x (s.memIn16 a)

/-- `LD pp,nn` (R250). -/
def execLdPpNn (p : Pair) (nn : Word) (s : State) : Host.Outcome State Fault Refusal :=
  .next (s.setPair p nn)

/-- `LD (nn),HL` (R254). -/
def execLdAtNnHl (nn : Word) (s : State) : Host.Outcome State Fault Refusal :=
  .next (s.memWrite16 nn s.hl)

/-- `LD HL,(nn)` (R258). -/
def execLdHlAtNn (nn : Word) (s : State) : Host.Outcome State Fault Refusal :=
  .next (s.loadPair .hl nn)

/-- `POP qq` (R267). -/
def execPopQq (q : PairQ) (s : State) : Host.Outcome State Fault Refusal :=
  .next (s.pop16.setPairQ q s.popIn)

/-- `PUSH qq` (R265). -/
def execPushQq (q : PairQ) (s : State) : Host.Outcome State Fault Refusal :=
  .next (s.push16 (s.pairQ q))

/-- `LD SP,HL` (R262). -/
def execLdSpHl (s : State) : Host.Outcome State Fault Refusal :=
  .next (s.setSp s.hl)

/-- `LD (nn),pp` (R255). -/
def execLdAtNnPp (nn : Word) (p : Pair) (s : State) : Host.Outcome State Fault Refusal :=
  .next (s.memWrite16 nn (s.pair p))

/-- `LD pp,(nn)` (R259). -/
def execLdPpAtNn (p : Pair) (nn : Word) (s : State) : Host.Outcome State Fault Refusal :=
  .next (s.loadPair p nn)

/-- `LD IX,nn` (R251). -/
def execLdIxNn (nn : Word) (s : State) : Host.Outcome State Fault Refusal :=
  .next (s.setIdx .ix nn)

/-- `LD (nn),IX` (R256). -/
def execLdAtNnIx (nn : Word) (s : State) : Host.Outcome State Fault Refusal :=
  .next (s.memWrite16 nn s.ix)

/-- `LD IX,(nn)` (R260). -/
def execLdIxAtNn (nn : Word) (s : State) : Host.Outcome State Fault Refusal :=
  .next (s.loadIdx .ix nn)

/-- `POP IX` (R268). -/
def execPopIx (s : State) : Host.Outcome State Fault Refusal :=
  .next (s.pop16.setIdx .ix s.popIn)

/-- `PUSH IX` (R266). -/
def execPushIx (s : State) : Host.Outcome State Fault Refusal :=
  .next (s.push16 s.ix)

/-- `LD SP,IX` (R263). -/
def execLdSpIx (s : State) : Host.Outcome State Fault Refusal :=
  .next (s.setSp s.ix)

/-- `LD IY,nn` (R252). -/
def execLdIyNn (nn : Word) (s : State) : Host.Outcome State Fault Refusal :=
  .next (s.setIdx .iy nn)

/-- `LD (nn),IY` (R257). -/
def execLdAtNnIy (nn : Word) (s : State) : Host.Outcome State Fault Refusal :=
  .next (s.memWrite16 nn s.iy)

/-- `LD IY,(nn)` (R261). -/
def execLdIyAtNn (nn : Word) (s : State) : Host.Outcome State Fault Refusal :=
  .next (s.loadIdx .iy nn)

/-- `POP IY` (R268). -/
def execPopIy (s : State) : Host.Outcome State Fault Refusal :=
  .next (s.pop16.setIdx .iy s.popIn)

/-- `PUSH IY` (R266). -/
def execPushIy (s : State) : Host.Outcome State Fault Refusal :=
  .next (s.push16 s.iy)

/-- `LD SP,IY` (R264). -/
def execLdSpIy (s : State) : Host.Outcome State Fault Refusal :=
  .next (s.setSp s.iy)

end Sys2Proof.Machine
end

