-- ==== Sys2Proof/Machine/Load8.lean ====
section
/-! DEFINITION. The 8-bit loads (43_load8.md R220 to R236). -/

namespace Sys2Proof.Machine

/-- A byte operand is copied into a register (R220 to R223, R229 to R231). -/
def State.loadReg (s : State) (r : Reg8) (o : Operand) : State := (s.operandRead o).setReg r (s.operand o)

/-- `LD (BC),A` (R232). -/
def execLdAtBcA (s : State) : Host.Outcome State Fault Refusal :=
  .next (s.memWrite s.bc s.main.a)

/-- `LD (DE),A` (R233). -/
def execLdAtDeA (s : State) : Host.Outcome State Fault Refusal :=
  .next (s.memWrite s.de s.main.a)

/-- `LD (nn),A` (R234). -/
def execLdAtNnA (nn : Word) (s : State) : Host.Outcome State Fault Refusal :=
  .next (s.memWrite nn s.main.a)

/-- `LD B,n` (R221). -/
def execLdBN (n : Byte) (s : State) : Host.Outcome State Fault Refusal :=
  .next (s.loadReg .b (.imm n))

/-- `LD C,n` (R221). -/
def execLdCN (n : Byte) (s : State) : Host.Outcome State Fault Refusal :=
  .next (s.loadReg .c (.imm n))

/-- `LD D,n` (R221). -/
def execLdDN (n : Byte) (s : State) : Host.Outcome State Fault Refusal :=
  .next (s.loadReg .d (.imm n))

/-- `LD E,n` (R221). -/
def execLdEN (n : Byte) (s : State) : Host.Outcome State Fault Refusal :=
  .next (s.loadReg .e (.imm n))

/-- `LD H,n` (R221). -/
def execLdHN (n : Byte) (s : State) : Host.Outcome State Fault Refusal :=
  .next (s.loadReg .h (.imm n))

/-- `LD L,n` (R221). -/
def execLdLN (n : Byte) (s : State) : Host.Outcome State Fault Refusal :=
  .next (s.loadReg .l (.imm n))

/-- `LD A,n` (R221). -/
def execLdAN (n : Byte) (s : State) : Host.Outcome State Fault Refusal :=
  .next (s.loadReg .a (.imm n))

/-- `LD (HL),n` (R226). -/
def execLdAtHlN (n : Byte) (s : State) : Host.Outcome State Fault Refusal :=
  .next (s.memWrite s.hl n)

/-- `LD A,(BC)` (R229). -/
def execLdAAtBc (s : State) : Host.Outcome State Fault Refusal :=
  .next (s.loadReg .a (.mem s.bc))

/-- `LD A,(DE)` (R230). -/
def execLdAAtDe (s : State) : Host.Outcome State Fault Refusal :=
  .next (s.loadReg .a (.mem s.de))

/-- `LD A,(nn)` (R231). -/
def execLdAAtNn (nn : Word) (s : State) : Host.Outcome State Fault Refusal :=
  .next (s.loadReg .a (.mem nn))

/-- `LD B,B` (R220). -/
def execLdBB (s : State) : Host.Outcome State Fault Refusal :=
  .next (s.loadReg .b (.reg .b))

/-- `LD B,C` (R220). -/
def execLdBC (s : State) : Host.Outcome State Fault Refusal :=
  .next (s.loadReg .b (.reg .c))

/-- `LD B,D` (R220). -/
def execLdBD (s : State) : Host.Outcome State Fault Refusal :=
  .next (s.loadReg .b (.reg .d))

/-- `LD B,E` (R220). -/
def execLdBE (s : State) : Host.Outcome State Fault Refusal :=
  .next (s.loadReg .b (.reg .e))

/-- `LD B,H` (R220). -/
def execLdBH (s : State) : Host.Outcome State Fault Refusal :=
  .next (s.loadReg .b (.reg .h))

/-- `LD B,L` (R220). -/
def execLdBL (s : State) : Host.Outcome State Fault Refusal :=
  .next (s.loadReg .b (.reg .l))

/-- `LD B,A` (R220). -/
def execLdBA (s : State) : Host.Outcome State Fault Refusal :=
  .next (s.loadReg .b (.reg .a))

/-- `LD C,B` (R220). -/
def execLdCB (s : State) : Host.Outcome State Fault Refusal :=
  .next (s.loadReg .c (.reg .b))

/-- `LD C,C` (R220). -/
def execLdCC (s : State) : Host.Outcome State Fault Refusal :=
  .next (s.loadReg .c (.reg .c))

/-- `LD C,D` (R220). -/
def execLdCD (s : State) : Host.Outcome State Fault Refusal :=
  .next (s.loadReg .c (.reg .d))

/-- `LD C,E` (R220). -/
def execLdCE (s : State) : Host.Outcome State Fault Refusal :=
  .next (s.loadReg .c (.reg .e))

/-- `LD C,H` (R220). -/
def execLdCH (s : State) : Host.Outcome State Fault Refusal :=
  .next (s.loadReg .c (.reg .h))

/-- `LD C,L` (R220). -/
def execLdCL (s : State) : Host.Outcome State Fault Refusal :=
  .next (s.loadReg .c (.reg .l))

/-- `LD C,A` (R220). -/
def execLdCA (s : State) : Host.Outcome State Fault Refusal :=
  .next (s.loadReg .c (.reg .a))

/-- `LD D,B` (R220). -/
def execLdDB (s : State) : Host.Outcome State Fault Refusal :=
  .next (s.loadReg .d (.reg .b))

/-- `LD D,C` (R220). -/
def execLdDC (s : State) : Host.Outcome State Fault Refusal :=
  .next (s.loadReg .d (.reg .c))

/-- `LD D,D` (R220). -/
def execLdDD (s : State) : Host.Outcome State Fault Refusal :=
  .next (s.loadReg .d (.reg .d))

/-- `LD D,E` (R220). -/
def execLdDE (s : State) : Host.Outcome State Fault Refusal :=
  .next (s.loadReg .d (.reg .e))

/-- `LD D,H` (R220). -/
def execLdDH (s : State) : Host.Outcome State Fault Refusal :=
  .next (s.loadReg .d (.reg .h))

/-- `LD D,L` (R220). -/
def execLdDL (s : State) : Host.Outcome State Fault Refusal :=
  .next (s.loadReg .d (.reg .l))

/-- `LD D,A` (R220). -/
def execLdDA (s : State) : Host.Outcome State Fault Refusal :=
  .next (s.loadReg .d (.reg .a))

/-- `LD E,B` (R220). -/
def execLdEB (s : State) : Host.Outcome State Fault Refusal :=
  .next (s.loadReg .e (.reg .b))

/-- `LD E,C` (R220). -/
def execLdEC (s : State) : Host.Outcome State Fault Refusal :=
  .next (s.loadReg .e (.reg .c))

/-- `LD E,D` (R220). -/
def execLdED (s : State) : Host.Outcome State Fault Refusal :=
  .next (s.loadReg .e (.reg .d))

/-- `LD E,E` (R220). -/
def execLdEE (s : State) : Host.Outcome State Fault Refusal :=
  .next (s.loadReg .e (.reg .e))

/-- `LD E,H` (R220). -/
def execLdEH (s : State) : Host.Outcome State Fault Refusal :=
  .next (s.loadReg .e (.reg .h))

/-- `LD E,L` (R220). -/
def execLdEL (s : State) : Host.Outcome State Fault Refusal :=
  .next (s.loadReg .e (.reg .l))

/-- `LD E,A` (R220). -/
def execLdEA (s : State) : Host.Outcome State Fault Refusal :=
  .next (s.loadReg .e (.reg .a))

/-- `LD H,B` (R220). -/
def execLdHB (s : State) : Host.Outcome State Fault Refusal :=
  .next (s.loadReg .h (.reg .b))

/-- `LD H,C` (R220). -/
def execLdHC (s : State) : Host.Outcome State Fault Refusal :=
  .next (s.loadReg .h (.reg .c))

/-- `LD H,D` (R220). -/
def execLdHD (s : State) : Host.Outcome State Fault Refusal :=
  .next (s.loadReg .h (.reg .d))

/-- `LD H,E` (R220). -/
def execLdHE (s : State) : Host.Outcome State Fault Refusal :=
  .next (s.loadReg .h (.reg .e))

/-- `LD H,H` (R220). On the TSK80A_D the byte 64h decodes to the
software breakpoint instead (log 35). -/
def execLdHH (s : State) : Host.Outcome State Fault Refusal :=
  .next (s.loadReg .h (.reg .h))

/-- `LD H,L` (R220). -/
def execLdHL (s : State) : Host.Outcome State Fault Refusal :=
  .next (s.loadReg .h (.reg .l))

/-- `LD H,A` (R220). -/
def execLdHA (s : State) : Host.Outcome State Fault Refusal :=
  .next (s.loadReg .h (.reg .a))

/-- `LD L,B` (R220). -/
def execLdLB (s : State) : Host.Outcome State Fault Refusal :=
  .next (s.loadReg .l (.reg .b))

/-- `LD L,C` (R220). -/
def execLdLC (s : State) : Host.Outcome State Fault Refusal :=
  .next (s.loadReg .l (.reg .c))

/-- `LD L,D` (R220). -/
def execLdLD (s : State) : Host.Outcome State Fault Refusal :=
  .next (s.loadReg .l (.reg .d))

/-- `LD L,E` (R220). -/
def execLdLE (s : State) : Host.Outcome State Fault Refusal :=
  .next (s.loadReg .l (.reg .e))

/-- `LD L,H` (R220). -/
def execLdLH (s : State) : Host.Outcome State Fault Refusal :=
  .next (s.loadReg .l (.reg .h))

/-- `LD L,L` (R220). -/
def execLdLL (s : State) : Host.Outcome State Fault Refusal :=
  .next (s.loadReg .l (.reg .l))

/-- `LD L,A` (R220). -/
def execLdLA (s : State) : Host.Outcome State Fault Refusal :=
  .next (s.loadReg .l (.reg .a))

/-- `LD A,B` (R220). -/
def execLdAB (s : State) : Host.Outcome State Fault Refusal :=
  .next (s.loadReg .a (.reg .b))

/-- `LD A,C` (R220). -/
def execLdAC (s : State) : Host.Outcome State Fault Refusal :=
  .next (s.loadReg .a (.reg .c))

/-- `LD A,D` (R220). -/
def execLdAD (s : State) : Host.Outcome State Fault Refusal :=
  .next (s.loadReg .a (.reg .d))

/-- `LD A,E` (R220). -/
def execLdAE (s : State) : Host.Outcome State Fault Refusal :=
  .next (s.loadReg .a (.reg .e))

/-- `LD A,H` (R220). -/
def execLdAH (s : State) : Host.Outcome State Fault Refusal :=
  .next (s.loadReg .a (.reg .h))

/-- `LD A,L` (R220). -/
def execLdAL (s : State) : Host.Outcome State Fault Refusal :=
  .next (s.loadReg .a (.reg .l))

/-- `LD A,A` (R220). -/
def execLdAA (s : State) : Host.Outcome State Fault Refusal :=
  .next (s.loadReg .a (.reg .a))

/-- `LD B,(HL)` (R222). -/
def execLdBAtHl (s : State) : Host.Outcome State Fault Refusal :=
  .next (s.loadReg .b (.mem s.hl))

/-- `LD (HL),B` (R224). -/
def execLdAtHlB (s : State) : Host.Outcome State Fault Refusal :=
  .next (s.memWrite s.hl s.main.b)

/-- `LD C,(HL)` (R222). -/
def execLdCAtHl (s : State) : Host.Outcome State Fault Refusal :=
  .next (s.loadReg .c (.mem s.hl))

/-- `LD (HL),C` (R224). -/
def execLdAtHlC (s : State) : Host.Outcome State Fault Refusal :=
  .next (s.memWrite s.hl s.main.c)

/-- `LD D,(HL)` (R222). -/
def execLdDAtHl (s : State) : Host.Outcome State Fault Refusal :=
  .next (s.loadReg .d (.mem s.hl))

/-- `LD (HL),D` (R224). -/
def execLdAtHlD (s : State) : Host.Outcome State Fault Refusal :=
  .next (s.memWrite s.hl s.main.d)

/-- `LD E,(HL)` (R222). -/
def execLdEAtHl (s : State) : Host.Outcome State Fault Refusal :=
  .next (s.loadReg .e (.mem s.hl))

/-- `LD (HL),E` (R224). -/
def execLdAtHlE (s : State) : Host.Outcome State Fault Refusal :=
  .next (s.memWrite s.hl s.main.e)

/-- `LD H,(HL)` (R222). -/
def execLdHAtHl (s : State) : Host.Outcome State Fault Refusal :=
  .next (s.loadReg .h (.mem s.hl))

/-- `LD (HL),H` (R224). -/
def execLdAtHlH (s : State) : Host.Outcome State Fault Refusal :=
  .next (s.memWrite s.hl s.main.h)

/-- `LD L,(HL)` (R222). -/
def execLdLAtHl (s : State) : Host.Outcome State Fault Refusal :=
  .next (s.loadReg .l (.mem s.hl))

/-- `LD (HL),L` (R224). -/
def execLdAtHlL (s : State) : Host.Outcome State Fault Refusal :=
  .next (s.memWrite s.hl s.main.l)

/-- `LD A,(HL)` (R222). -/
def execLdAAtHl (s : State) : Host.Outcome State Fault Refusal :=
  .next (s.loadReg .a (.mem s.hl))

/-- `LD (HL),A` (R224). -/
def execLdAtHlA (s : State) : Host.Outcome State Fault Refusal :=
  .next (s.memWrite s.hl s.main.a)

/-- `LD I,A` (R236). -/
def execLdIA (s : State) : Host.Outcome State Fault Refusal :=
  .next ({ s with ireg := s.main.a })

/-- `LD A,I` (R235). -/
def execLdAI (s : State) : Host.Outcome State Fault Refusal :=
  .next ((s.setA s.ireg).putFlags (ldAIFlags s.ireg s.iff2 s.flags))

/-- `LD (IX+d),n` (R227). -/
def execLdAtIxdN (d : Byte) (n : Byte) (s : State) : Host.Outcome State Fault Refusal :=
  .next (s.memWrite (s.ea .ix d) n)

/-- `LD B,(IX+d)` (R223). -/
def execLdBAtIxd (d : Byte) (s : State) : Host.Outcome State Fault Refusal :=
  .next (s.loadReg .b (.mem (s.ea .ix d)))

/-- `LD (IX+d),B` (R225). -/
def execLdAtIxdB (d : Byte) (s : State) : Host.Outcome State Fault Refusal :=
  .next (s.memWrite (s.ea .ix d) s.main.b)

/-- `LD C,(IX+d)` (R223). -/
def execLdCAtIxd (d : Byte) (s : State) : Host.Outcome State Fault Refusal :=
  .next (s.loadReg .c (.mem (s.ea .ix d)))

/-- `LD (IX+d),C` (R225). -/
def execLdAtIxdC (d : Byte) (s : State) : Host.Outcome State Fault Refusal :=
  .next (s.memWrite (s.ea .ix d) s.main.c)

/-- `LD D,(IX+d)` (R223). -/
def execLdDAtIxd (d : Byte) (s : State) : Host.Outcome State Fault Refusal :=
  .next (s.loadReg .d (.mem (s.ea .ix d)))

/-- `LD (IX+d),D` (R225). -/
def execLdAtIxdD (d : Byte) (s : State) : Host.Outcome State Fault Refusal :=
  .next (s.memWrite (s.ea .ix d) s.main.d)

/-- `LD E,(IX+d)` (R223). -/
def execLdEAtIxd (d : Byte) (s : State) : Host.Outcome State Fault Refusal :=
  .next (s.loadReg .e (.mem (s.ea .ix d)))

/-- `LD (IX+d),E` (R225). -/
def execLdAtIxdE (d : Byte) (s : State) : Host.Outcome State Fault Refusal :=
  .next (s.memWrite (s.ea .ix d) s.main.e)

/-- `LD H,(IX+d)` (R223). -/
def execLdHAtIxd (d : Byte) (s : State) : Host.Outcome State Fault Refusal :=
  .next (s.loadReg .h (.mem (s.ea .ix d)))

/-- `LD (IX+d),H` (R225). -/
def execLdAtIxdH (d : Byte) (s : State) : Host.Outcome State Fault Refusal :=
  .next (s.memWrite (s.ea .ix d) s.main.h)

/-- `LD L,(IX+d)` (R223). -/
def execLdLAtIxd (d : Byte) (s : State) : Host.Outcome State Fault Refusal :=
  .next (s.loadReg .l (.mem (s.ea .ix d)))

/-- `LD (IX+d),L` (R225). -/
def execLdAtIxdL (d : Byte) (s : State) : Host.Outcome State Fault Refusal :=
  .next (s.memWrite (s.ea .ix d) s.main.l)

/-- `LD A,(IX+d)` (R223). -/
def execLdAAtIxd (d : Byte) (s : State) : Host.Outcome State Fault Refusal :=
  .next (s.loadReg .a (.mem (s.ea .ix d)))

/-- `LD (IX+d),A` (R225). -/
def execLdAtIxdA (d : Byte) (s : State) : Host.Outcome State Fault Refusal :=
  .next (s.memWrite (s.ea .ix d) s.main.a)

/-- `LD (IY+d),n` (R228). -/
def execLdAtIydN (d : Byte) (n : Byte) (s : State) : Host.Outcome State Fault Refusal :=
  .next (s.memWrite (s.ea .iy d) n)

/-- `LD B,(IY+d)` (R223). -/
def execLdBAtIyd (d : Byte) (s : State) : Host.Outcome State Fault Refusal :=
  .next (s.loadReg .b (.mem (s.ea .iy d)))

/-- `LD (IY+d),B` (R225). -/
def execLdAtIydB (d : Byte) (s : State) : Host.Outcome State Fault Refusal :=
  .next (s.memWrite (s.ea .iy d) s.main.b)

/-- `LD C,(IY+d)` (R223). -/
def execLdCAtIyd (d : Byte) (s : State) : Host.Outcome State Fault Refusal :=
  .next (s.loadReg .c (.mem (s.ea .iy d)))

/-- `LD (IY+d),C` (R225). -/
def execLdAtIydC (d : Byte) (s : State) : Host.Outcome State Fault Refusal :=
  .next (s.memWrite (s.ea .iy d) s.main.c)

/-- `LD D,(IY+d)` (R223). -/
def execLdDAtIyd (d : Byte) (s : State) : Host.Outcome State Fault Refusal :=
  .next (s.loadReg .d (.mem (s.ea .iy d)))

/-- `LD (IY+d),D` (R225). -/
def execLdAtIydD (d : Byte) (s : State) : Host.Outcome State Fault Refusal :=
  .next (s.memWrite (s.ea .iy d) s.main.d)

/-- `LD E,(IY+d)` (R223). -/
def execLdEAtIyd (d : Byte) (s : State) : Host.Outcome State Fault Refusal :=
  .next (s.loadReg .e (.mem (s.ea .iy d)))

/-- `LD (IY+d),E` (R225). -/
def execLdAtIydE (d : Byte) (s : State) : Host.Outcome State Fault Refusal :=
  .next (s.memWrite (s.ea .iy d) s.main.e)

/-- `LD H,(IY+d)` (R223). -/
def execLdHAtIyd (d : Byte) (s : State) : Host.Outcome State Fault Refusal :=
  .next (s.loadReg .h (.mem (s.ea .iy d)))

/-- `LD (IY+d),H` (R225). -/
def execLdAtIydH (d : Byte) (s : State) : Host.Outcome State Fault Refusal :=
  .next (s.memWrite (s.ea .iy d) s.main.h)

/-- `LD L,(IY+d)` (R223). -/
def execLdLAtIyd (d : Byte) (s : State) : Host.Outcome State Fault Refusal :=
  .next (s.loadReg .l (.mem (s.ea .iy d)))

/-- `LD (IY+d),L` (R225). -/
def execLdAtIydL (d : Byte) (s : State) : Host.Outcome State Fault Refusal :=
  .next (s.memWrite (s.ea .iy d) s.main.l)

/-- `LD A,(IY+d)` (R223). -/
def execLdAAtIyd (d : Byte) (s : State) : Host.Outcome State Fault Refusal :=
  .next (s.loadReg .a (.mem (s.ea .iy d)))

/-- `LD (IY+d),A` (R225). -/
def execLdAtIydA (d : Byte) (s : State) : Host.Outcome State Fault Refusal :=
  .next (s.memWrite (s.ea .iy d) s.main.a)

end Sys2Proof.Machine
end

