-- ==== Sys2Proof/Machine/Logic.lean ====
section
/-! DEFINITION. Logic and compare (42_logic.md R191 to R206). -/

namespace Sys2Proof.Machine


/-- `AND B` (R191). -/
def execAndB (s : State) : Host.Outcome State Fault Refusal :=
  .next (s.alu .and (.reg .b))

/-- `AND C` (R191). -/
def execAndC (s : State) : Host.Outcome State Fault Refusal :=
  .next (s.alu .and (.reg .c))

/-- `AND D` (R191). -/
def execAndD (s : State) : Host.Outcome State Fault Refusal :=
  .next (s.alu .and (.reg .d))

/-- `AND E` (R191). -/
def execAndE (s : State) : Host.Outcome State Fault Refusal :=
  .next (s.alu .and (.reg .e))

/-- `AND H` (R191). -/
def execAndH (s : State) : Host.Outcome State Fault Refusal :=
  .next (s.alu .and (.reg .h))

/-- `AND L` (R191). -/
def execAndL (s : State) : Host.Outcome State Fault Refusal :=
  .next (s.alu .and (.reg .l))

/-- `AND A` (R191). -/
def execAndA (s : State) : Host.Outcome State Fault Refusal :=
  .next (s.alu .and (.reg .a))

/-- `AND (HL)` (R193). -/
def execAndAtHl (s : State) : Host.Outcome State Fault Refusal :=
  .next (s.alu .and (.mem s.hl))

/-- `AND n` (R192). -/
def execAndN (n : Byte) (s : State) : Host.Outcome State Fault Refusal :=
  .next (s.alu .and (.imm n))

/-- `XOR B` (R199). -/
def execXorB (s : State) : Host.Outcome State Fault Refusal :=
  .next (s.alu .xor (.reg .b))

/-- `XOR C` (R199). -/
def execXorC (s : State) : Host.Outcome State Fault Refusal :=
  .next (s.alu .xor (.reg .c))

/-- `XOR D` (R199). -/
def execXorD (s : State) : Host.Outcome State Fault Refusal :=
  .next (s.alu .xor (.reg .d))

/-- `XOR E` (R199). -/
def execXorE (s : State) : Host.Outcome State Fault Refusal :=
  .next (s.alu .xor (.reg .e))

/-- `XOR H` (R199). -/
def execXorH (s : State) : Host.Outcome State Fault Refusal :=
  .next (s.alu .xor (.reg .h))

/-- `XOR L` (R199). -/
def execXorL (s : State) : Host.Outcome State Fault Refusal :=
  .next (s.alu .xor (.reg .l))

/-- `XOR A` (R199). -/
def execXorA (s : State) : Host.Outcome State Fault Refusal :=
  .next (s.alu .xor (.reg .a))

/-- `XOR (HL)` (R201). -/
def execXorAtHl (s : State) : Host.Outcome State Fault Refusal :=
  .next (s.alu .xor (.mem s.hl))

/-- `XOR n` (R200). -/
def execXorN (n : Byte) (s : State) : Host.Outcome State Fault Refusal :=
  .next (s.alu .xor (.imm n))

/-- `OR B` (R195). -/
def execOrB (s : State) : Host.Outcome State Fault Refusal :=
  .next (s.alu .or (.reg .b))

/-- `OR C` (R195). -/
def execOrC (s : State) : Host.Outcome State Fault Refusal :=
  .next (s.alu .or (.reg .c))

/-- `OR D` (R195). -/
def execOrD (s : State) : Host.Outcome State Fault Refusal :=
  .next (s.alu .or (.reg .d))

/-- `OR E` (R195). -/
def execOrE (s : State) : Host.Outcome State Fault Refusal :=
  .next (s.alu .or (.reg .e))

/-- `OR H` (R195). -/
def execOrH (s : State) : Host.Outcome State Fault Refusal :=
  .next (s.alu .or (.reg .h))

/-- `OR L` (R195). -/
def execOrL (s : State) : Host.Outcome State Fault Refusal :=
  .next (s.alu .or (.reg .l))

/-- `OR A` (R195). -/
def execOrA (s : State) : Host.Outcome State Fault Refusal :=
  .next (s.alu .or (.reg .a))

/-- `OR (HL)` (R197). -/
def execOrAtHl (s : State) : Host.Outcome State Fault Refusal :=
  .next (s.alu .or (.mem s.hl))

/-- `OR n` (R196). -/
def execOrN (n : Byte) (s : State) : Host.Outcome State Fault Refusal :=
  .next (s.alu .or (.imm n))

/-- `CP B` (R203). -/
def execCpB (s : State) : Host.Outcome State Fault Refusal :=
  .next (s.alu .cp (.reg .b))

/-- `CP C` (R203). -/
def execCpC (s : State) : Host.Outcome State Fault Refusal :=
  .next (s.alu .cp (.reg .c))

/-- `CP D` (R203). -/
def execCpD (s : State) : Host.Outcome State Fault Refusal :=
  .next (s.alu .cp (.reg .d))

/-- `CP E` (R203). -/
def execCpE (s : State) : Host.Outcome State Fault Refusal :=
  .next (s.alu .cp (.reg .e))

/-- `CP H` (R203). -/
def execCpH (s : State) : Host.Outcome State Fault Refusal :=
  .next (s.alu .cp (.reg .h))

/-- `CP L` (R203). -/
def execCpL (s : State) : Host.Outcome State Fault Refusal :=
  .next (s.alu .cp (.reg .l))

/-- `CP A` (R203). -/
def execCpA (s : State) : Host.Outcome State Fault Refusal :=
  .next (s.alu .cp (.reg .a))

/-- `CP (HL)` (R205). -/
def execCpAtHl (s : State) : Host.Outcome State Fault Refusal :=
  .next (s.alu .cp (.mem s.hl))

/-- `CP n` (R204). -/
def execCpN (n : Byte) (s : State) : Host.Outcome State Fault Refusal :=
  .next (s.alu .cp (.imm n))

/-- `AND (IX+d)` (R194). -/
def execAndAtIxd (d : Byte) (s : State) : Host.Outcome State Fault Refusal :=
  .next (s.alu .and (.mem (s.ea .ix d)))

/-- `XOR (IX+d)` (R202). -/
def execXorAtIxd (d : Byte) (s : State) : Host.Outcome State Fault Refusal :=
  .next (s.alu .xor (.mem (s.ea .ix d)))

/-- `OR (IX+d)` (R198). -/
def execOrAtIxd (d : Byte) (s : State) : Host.Outcome State Fault Refusal :=
  .next (s.alu .or (.mem (s.ea .ix d)))

/-- `CP (IX+d)` (R206). -/
def execCpAtIxd (d : Byte) (s : State) : Host.Outcome State Fault Refusal :=
  .next (s.alu .cp (.mem (s.ea .ix d)))

/-- `AND (IY+d)` (R194). -/
def execAndAtIyd (d : Byte) (s : State) : Host.Outcome State Fault Refusal :=
  .next (s.alu .and (.mem (s.ea .iy d)))

/-- `XOR (IY+d)` (R202). -/
def execXorAtIyd (d : Byte) (s : State) : Host.Outcome State Fault Refusal :=
  .next (s.alu .xor (.mem (s.ea .iy d)))

/-- `OR (IY+d)` (R198). -/
def execOrAtIyd (d : Byte) (s : State) : Host.Outcome State Fault Refusal :=
  .next (s.alu .or (.mem (s.ea .iy d)))

/-- `CP (IY+d)` (R206). -/
def execCpAtIyd (d : Byte) (s : State) : Host.Outcome State Fault Refusal :=
  .next (s.alu .cp (.mem (s.ea .iy d)))

end Sys2Proof.Machine
end

