-- ==== Sys2Proof/Machine/Rotate.lean ====
section
/-! DEFINITION. Rotates and shifts (47_rotate_shift_bit.md R331 to R364). -/

namespace Sys2Proof.Machine

/-- The rotates of `A` that leave S, Z and P/V alone (R331 to R334). -/
def State.rotateAcc (s : State) (op : Rot) : State :=
  (s.setA (rotResult op s.main.a s.flags.c)).putFlags (accRotFlags (rotOut op s.main.a) s.flags)

/-- A CB rotate or shift of a register (R335, R339, R343, R347, R351, R355, R359). -/
def State.rotateReg (s : State) (op : Rot) (r : Reg8) : State :=
  s.changeReg r (rotResult op (s.reg r) s.flags.c)
    (shiftFlags (rotResult op (s.reg r) s.flags.c) (rotOut op (s.reg r)))

/-- A CB rotate or shift of a memory byte. -/
def State.rotateMem (s : State) (op : Rot) (a : Word) : State :=
  s.changeMem a (rotResult op (s.memIn a) s.flags.c)
    (shiftFlags (rotResult op (s.memIn a) s.flags.c) (rotOut op (s.memIn a)))

/-- The digit rotates: the memory byte becomes `m`, `A` becomes `v` (R363, R364). -/
def State.rotateDigits (s : State) (m v : Byte) : State :=
  (((s.memRead s.hl).setA v).memWrite s.hl m).putFlags (dataFlags v s.flags)

/-- `RLCA` (R331). -/
def execRlca (s : State) : Host.Outcome State Fault Refusal :=
  .next (s.rotateAcc .rlc)

/-- `RRCA` (R333). -/
def execRrca (s : State) : Host.Outcome State Fault Refusal :=
  .next (s.rotateAcc .rrc)

/-- `RLA` (R332). -/
def execRla (s : State) : Host.Outcome State Fault Refusal :=
  .next (s.rotateAcc .rl)

/-- `RRA` (R334). -/
def execRra (s : State) : Host.Outcome State Fault Refusal :=
  .next (s.rotateAcc .rr)

/-- `RLC B` (R335). -/
def execRlcB (s : State) : Host.Outcome State Fault Refusal :=
  .next (s.rotateReg .rlc .b)

/-- `RLC C` (R335). -/
def execRlcC (s : State) : Host.Outcome State Fault Refusal :=
  .next (s.rotateReg .rlc .c)

/-- `RLC D` (R335). -/
def execRlcD (s : State) : Host.Outcome State Fault Refusal :=
  .next (s.rotateReg .rlc .d)

/-- `RLC E` (R335). -/
def execRlcE (s : State) : Host.Outcome State Fault Refusal :=
  .next (s.rotateReg .rlc .e)

/-- `RLC H` (R335). -/
def execRlcH (s : State) : Host.Outcome State Fault Refusal :=
  .next (s.rotateReg .rlc .h)

/-- `RLC L` (R335). -/
def execRlcL (s : State) : Host.Outcome State Fault Refusal :=
  .next (s.rotateReg .rlc .l)

/-- `RLC A` (R335). -/
def execRlcA (s : State) : Host.Outcome State Fault Refusal :=
  .next (s.rotateReg .rlc .a)

/-- `RLC (HL)` (R336). -/
def execRlcAtHl (s : State) : Host.Outcome State Fault Refusal :=
  .next (s.rotateMem .rlc s.hl)

/-- `RLC (IX+d)` (R337). -/
def execRlcAtIxd (d : Byte) (s : State) : Host.Outcome State Fault Refusal :=
  .next (s.rotateMem .rlc (s.ea .ix d))

/-- `RLC (IY+d)` (R338). -/
def execRlcAtIyd (d : Byte) (s : State) : Host.Outcome State Fault Refusal :=
  .next (s.rotateMem .rlc (s.ea .iy d))

/-- `RRC B` (R343). -/
def execRrcB (s : State) : Host.Outcome State Fault Refusal :=
  .next (s.rotateReg .rrc .b)

/-- `RRC C` (R343). -/
def execRrcC (s : State) : Host.Outcome State Fault Refusal :=
  .next (s.rotateReg .rrc .c)

/-- `RRC D` (R343). -/
def execRrcD (s : State) : Host.Outcome State Fault Refusal :=
  .next (s.rotateReg .rrc .d)

/-- `RRC E` (R343). -/
def execRrcE (s : State) : Host.Outcome State Fault Refusal :=
  .next (s.rotateReg .rrc .e)

/-- `RRC H` (R343). -/
def execRrcH (s : State) : Host.Outcome State Fault Refusal :=
  .next (s.rotateReg .rrc .h)

/-- `RRC L` (R343). -/
def execRrcL (s : State) : Host.Outcome State Fault Refusal :=
  .next (s.rotateReg .rrc .l)

/-- `RRC A` (R343). -/
def execRrcA (s : State) : Host.Outcome State Fault Refusal :=
  .next (s.rotateReg .rrc .a)

/-- `RRC (HL)` (R344). -/
def execRrcAtHl (s : State) : Host.Outcome State Fault Refusal :=
  .next (s.rotateMem .rrc s.hl)

/-- `RRC (IX+d)` (R345). -/
def execRrcAtIxd (d : Byte) (s : State) : Host.Outcome State Fault Refusal :=
  .next (s.rotateMem .rrc (s.ea .ix d))

/-- `RRC (IY+d)` (R346). -/
def execRrcAtIyd (d : Byte) (s : State) : Host.Outcome State Fault Refusal :=
  .next (s.rotateMem .rrc (s.ea .iy d))

/-- `RL B` (R339). -/
def execRlB (s : State) : Host.Outcome State Fault Refusal :=
  .next (s.rotateReg .rl .b)

/-- `RL C` (R339). -/
def execRlC (s : State) : Host.Outcome State Fault Refusal :=
  .next (s.rotateReg .rl .c)

/-- `RL D` (R339). -/
def execRlD (s : State) : Host.Outcome State Fault Refusal :=
  .next (s.rotateReg .rl .d)

/-- `RL E` (R339). -/
def execRlE (s : State) : Host.Outcome State Fault Refusal :=
  .next (s.rotateReg .rl .e)

/-- `RL H` (R339). -/
def execRlH (s : State) : Host.Outcome State Fault Refusal :=
  .next (s.rotateReg .rl .h)

/-- `RL L` (R339). -/
def execRlL (s : State) : Host.Outcome State Fault Refusal :=
  .next (s.rotateReg .rl .l)

/-- `RL A` (R339). -/
def execRlA (s : State) : Host.Outcome State Fault Refusal :=
  .next (s.rotateReg .rl .a)

/-- `RL (HL)` (R340). -/
def execRlAtHl (s : State) : Host.Outcome State Fault Refusal :=
  .next (s.rotateMem .rl s.hl)

/-- `RL (IX+d)` (R341). -/
def execRlAtIxd (d : Byte) (s : State) : Host.Outcome State Fault Refusal :=
  .next (s.rotateMem .rl (s.ea .ix d))

/-- `RL (IY+d)` (R342). -/
def execRlAtIyd (d : Byte) (s : State) : Host.Outcome State Fault Refusal :=
  .next (s.rotateMem .rl (s.ea .iy d))

/-- `RR B` (R347). -/
def execRrB (s : State) : Host.Outcome State Fault Refusal :=
  .next (s.rotateReg .rr .b)

/-- `RR C` (R347). -/
def execRrC (s : State) : Host.Outcome State Fault Refusal :=
  .next (s.rotateReg .rr .c)

/-- `RR D` (R347). -/
def execRrD (s : State) : Host.Outcome State Fault Refusal :=
  .next (s.rotateReg .rr .d)

/-- `RR E` (R347). -/
def execRrE (s : State) : Host.Outcome State Fault Refusal :=
  .next (s.rotateReg .rr .e)

/-- `RR H` (R347). -/
def execRrH (s : State) : Host.Outcome State Fault Refusal :=
  .next (s.rotateReg .rr .h)

/-- `RR L` (R347). -/
def execRrL (s : State) : Host.Outcome State Fault Refusal :=
  .next (s.rotateReg .rr .l)

/-- `RR A` (R347). -/
def execRrA (s : State) : Host.Outcome State Fault Refusal :=
  .next (s.rotateReg .rr .a)

/-- `RR (HL)` (R348). -/
def execRrAtHl (s : State) : Host.Outcome State Fault Refusal :=
  .next (s.rotateMem .rr s.hl)

/-- `RR (IX+d)` (R349). -/
def execRrAtIxd (d : Byte) (s : State) : Host.Outcome State Fault Refusal :=
  .next (s.rotateMem .rr (s.ea .ix d))

/-- `RR (IY+d)` (R350). -/
def execRrAtIyd (d : Byte) (s : State) : Host.Outcome State Fault Refusal :=
  .next (s.rotateMem .rr (s.ea .iy d))

/-- `SLA B` (R351). -/
def execSlaB (s : State) : Host.Outcome State Fault Refusal :=
  .next (s.rotateReg .sla .b)

/-- `SLA C` (R351). -/
def execSlaC (s : State) : Host.Outcome State Fault Refusal :=
  .next (s.rotateReg .sla .c)

/-- `SLA D` (R351). -/
def execSlaD (s : State) : Host.Outcome State Fault Refusal :=
  .next (s.rotateReg .sla .d)

/-- `SLA E` (R351). -/
def execSlaE (s : State) : Host.Outcome State Fault Refusal :=
  .next (s.rotateReg .sla .e)

/-- `SLA H` (R351). -/
def execSlaH (s : State) : Host.Outcome State Fault Refusal :=
  .next (s.rotateReg .sla .h)

/-- `SLA L` (R351). -/
def execSlaL (s : State) : Host.Outcome State Fault Refusal :=
  .next (s.rotateReg .sla .l)

/-- `SLA A` (R351). -/
def execSlaA (s : State) : Host.Outcome State Fault Refusal :=
  .next (s.rotateReg .sla .a)

/-- `SLA (HL)` (R352). -/
def execSlaAtHl (s : State) : Host.Outcome State Fault Refusal :=
  .next (s.rotateMem .sla s.hl)

/-- `SLA (IX+d)` (R353). -/
def execSlaAtIxd (d : Byte) (s : State) : Host.Outcome State Fault Refusal :=
  .next (s.rotateMem .sla (s.ea .ix d))

/-- `SLA (IY+d)` (R354). -/
def execSlaAtIyd (d : Byte) (s : State) : Host.Outcome State Fault Refusal :=
  .next (s.rotateMem .sla (s.ea .iy d))

/-- `SRA B` (R355). -/
def execSraB (s : State) : Host.Outcome State Fault Refusal :=
  .next (s.rotateReg .sra .b)

/-- `SRA C` (R355). -/
def execSraC (s : State) : Host.Outcome State Fault Refusal :=
  .next (s.rotateReg .sra .c)

/-- `SRA D` (R355). -/
def execSraD (s : State) : Host.Outcome State Fault Refusal :=
  .next (s.rotateReg .sra .d)

/-- `SRA E` (R355). -/
def execSraE (s : State) : Host.Outcome State Fault Refusal :=
  .next (s.rotateReg .sra .e)

/-- `SRA H` (R355). -/
def execSraH (s : State) : Host.Outcome State Fault Refusal :=
  .next (s.rotateReg .sra .h)

/-- `SRA L` (R355). -/
def execSraL (s : State) : Host.Outcome State Fault Refusal :=
  .next (s.rotateReg .sra .l)

/-- `SRA A` (R355). -/
def execSraA (s : State) : Host.Outcome State Fault Refusal :=
  .next (s.rotateReg .sra .a)

/-- `SRA (HL)` (R356). -/
def execSraAtHl (s : State) : Host.Outcome State Fault Refusal :=
  .next (s.rotateMem .sra s.hl)

/-- `SRA (IX+d)` (R357). -/
def execSraAtIxd (d : Byte) (s : State) : Host.Outcome State Fault Refusal :=
  .next (s.rotateMem .sra (s.ea .ix d))

/-- `SRA (IY+d)` (R358). -/
def execSraAtIyd (d : Byte) (s : State) : Host.Outcome State Fault Refusal :=
  .next (s.rotateMem .sra (s.ea .iy d))

/-- `SRL B` (R359). -/
def execSrlB (s : State) : Host.Outcome State Fault Refusal :=
  .next (s.rotateReg .srl .b)

/-- `SRL C` (R359). -/
def execSrlC (s : State) : Host.Outcome State Fault Refusal :=
  .next (s.rotateReg .srl .c)

/-- `SRL D` (R359). -/
def execSrlD (s : State) : Host.Outcome State Fault Refusal :=
  .next (s.rotateReg .srl .d)

/-- `SRL E` (R359). -/
def execSrlE (s : State) : Host.Outcome State Fault Refusal :=
  .next (s.rotateReg .srl .e)

/-- `SRL H` (R359). -/
def execSrlH (s : State) : Host.Outcome State Fault Refusal :=
  .next (s.rotateReg .srl .h)

/-- `SRL L` (R359). -/
def execSrlL (s : State) : Host.Outcome State Fault Refusal :=
  .next (s.rotateReg .srl .l)

/-- `SRL A` (R359). -/
def execSrlA (s : State) : Host.Outcome State Fault Refusal :=
  .next (s.rotateReg .srl .a)

/-- `SRL (HL)` (R360). -/
def execSrlAtHl (s : State) : Host.Outcome State Fault Refusal :=
  .next (s.rotateMem .srl s.hl)

/-- `SRL (IX+d)` (R361). -/
def execSrlAtIxd (d : Byte) (s : State) : Host.Outcome State Fault Refusal :=
  .next (s.rotateMem .srl (s.ea .ix d))

/-- `SRL (IY+d)` (R362). -/
def execSrlAtIyd (d : Byte) (s : State) : Host.Outcome State Fault Refusal :=
  .next (s.rotateMem .srl (s.ea .iy d))

/-- `RRD` (R364). -/
def execRrd (s : State) : Host.Outcome State Fault Refusal :=
  .next (s.rotateDigits (BitVec.ofNat 8 ((s.main.a.toNat % 16) * 16 + (s.memIn s.hl).toNat / 16))
    (BitVec.ofNat 8 (s.main.a.toNat / 16 * 16 + (s.memIn s.hl).toNat % 16)))

/-- `RLD` (R363). -/
def execRld (s : State) : Host.Outcome State Fault Refusal :=
  .next (s.rotateDigits (BitVec.ofNat 8 (((s.memIn s.hl).toNat % 16) * 16 + s.main.a.toNat % 16))
    (BitVec.ofNat 8 (s.main.a.toNat / 16 * 16 + (s.memIn s.hl).toNat / 16)))

end Sys2Proof.Machine
end

