-- ==== Sys2Proof/Machine/Dispatch.lean ====
section
/-! DEFINITION. The meaning of every instruction, one arm each. -/

namespace Sys2Proof.Machine

def exec (i : Instr) (s : State) : Host.Outcome State Fault Refusal :=
  match i with
  | .nop => Sys2Proof.Machine.execNop s
  | .ldPpNn p nn => Sys2Proof.Machine.execLdPpNn p nn s
  | .ldAtBcA => Sys2Proof.Machine.execLdAtBcA s
  | .ldAtDeA => Sys2Proof.Machine.execLdAtDeA s
  | .ldAtNnHl nn => Sys2Proof.Machine.execLdAtNnHl nn s
  | .ldAtNnA nn => Sys2Proof.Machine.execLdAtNnA nn s
  | .incPp p => Sys2Proof.Machine.execIncPp p s
  | .decPp p => Sys2Proof.Machine.execDecPp p s
  | .addHlPp p => Sys2Proof.Machine.execAddHlPp p s
  | .incB => Sys2Proof.Machine.execIncB s
  | .decB => Sys2Proof.Machine.execDecB s
  | .ldBN n => Sys2Proof.Machine.execLdBN n s
  | .incC => Sys2Proof.Machine.execIncC s
  | .decC => Sys2Proof.Machine.execDecC s
  | .ldCN n => Sys2Proof.Machine.execLdCN n s
  | .incD => Sys2Proof.Machine.execIncD s
  | .decD => Sys2Proof.Machine.execDecD s
  | .ldDN n => Sys2Proof.Machine.execLdDN n s
  | .incE => Sys2Proof.Machine.execIncE s
  | .decE => Sys2Proof.Machine.execDecE s
  | .ldEN n => Sys2Proof.Machine.execLdEN n s
  | .incH => Sys2Proof.Machine.execIncH s
  | .decH => Sys2Proof.Machine.execDecH s
  | .ldHN n => Sys2Proof.Machine.execLdHN n s
  | .incL => Sys2Proof.Machine.execIncL s
  | .decL => Sys2Proof.Machine.execDecL s
  | .ldLN n => Sys2Proof.Machine.execLdLN n s
  | .incA => Sys2Proof.Machine.execIncA s
  | .decA => Sys2Proof.Machine.execDecA s
  | .ldAN n => Sys2Proof.Machine.execLdAN n s
  | .incAtHl => Sys2Proof.Machine.execIncAtHl s
  | .decAtHl => Sys2Proof.Machine.execDecAtHl s
  | .ldAtHlN n => Sys2Proof.Machine.execLdAtHlN n s
  | .rlca => Sys2Proof.Machine.execRlca s
  | .rrca => Sys2Proof.Machine.execRrca s
  | .rla => Sys2Proof.Machine.execRla s
  | .rra => Sys2Proof.Machine.execRra s
  | .daa => Sys2Proof.Machine.execDaa s
  | .cpl => Sys2Proof.Machine.execCpl s
  | .scf => Sys2Proof.Machine.execScf s
  | .ccf => Sys2Proof.Machine.execCcf s
  | .exAfAf => Sys2Proof.Machine.execExAfAf s
  | .ldAAtBc => Sys2Proof.Machine.execLdAAtBc s
  | .ldAAtDe => Sys2Proof.Machine.execLdAAtDe s
  | .ldHlAtNn nn => Sys2Proof.Machine.execLdHlAtNn nn s
  | .ldAAtNn nn => Sys2Proof.Machine.execLdAAtNn nn s
  | .djnzE e => Sys2Proof.Machine.execDjnzE e s
  | .jrE e => Sys2Proof.Machine.execJrE e s
  | .jrCcE cc e => Sys2Proof.Machine.execJrCcE cc e s
  | .ldBB => Sys2Proof.Machine.execLdBB s
  | .ldBC => Sys2Proof.Machine.execLdBC s
  | .ldBD => Sys2Proof.Machine.execLdBD s
  | .ldBE => Sys2Proof.Machine.execLdBE s
  | .ldBH => Sys2Proof.Machine.execLdBH s
  | .ldBL => Sys2Proof.Machine.execLdBL s
  | .ldBA => Sys2Proof.Machine.execLdBA s
  | .ldCB => Sys2Proof.Machine.execLdCB s
  | .ldCC => Sys2Proof.Machine.execLdCC s
  | .ldCD => Sys2Proof.Machine.execLdCD s
  | .ldCE => Sys2Proof.Machine.execLdCE s
  | .ldCH => Sys2Proof.Machine.execLdCH s
  | .ldCL => Sys2Proof.Machine.execLdCL s
  | .ldCA => Sys2Proof.Machine.execLdCA s
  | .ldDB => Sys2Proof.Machine.execLdDB s
  | .ldDC => Sys2Proof.Machine.execLdDC s
  | .ldDD => Sys2Proof.Machine.execLdDD s
  | .ldDE => Sys2Proof.Machine.execLdDE s
  | .ldDH => Sys2Proof.Machine.execLdDH s
  | .ldDL => Sys2Proof.Machine.execLdDL s
  | .ldDA => Sys2Proof.Machine.execLdDA s
  | .ldEB => Sys2Proof.Machine.execLdEB s
  | .ldEC => Sys2Proof.Machine.execLdEC s
  | .ldED => Sys2Proof.Machine.execLdED s
  | .ldEE => Sys2Proof.Machine.execLdEE s
  | .ldEH => Sys2Proof.Machine.execLdEH s
  | .ldEL => Sys2Proof.Machine.execLdEL s
  | .ldEA => Sys2Proof.Machine.execLdEA s
  | .ldHB => Sys2Proof.Machine.execLdHB s
  | .ldHC => Sys2Proof.Machine.execLdHC s
  | .ldHD => Sys2Proof.Machine.execLdHD s
  | .ldHE => Sys2Proof.Machine.execLdHE s
  | .ldHH => Sys2Proof.Machine.execLdHH s
  | .breakpoint64 => Sys2Proof.Machine.execBreakpoint64 s
  | .ldHL => Sys2Proof.Machine.execLdHL s
  | .ldHA => Sys2Proof.Machine.execLdHA s
  | .ldLB => Sys2Proof.Machine.execLdLB s
  | .ldLC => Sys2Proof.Machine.execLdLC s
  | .ldLD => Sys2Proof.Machine.execLdLD s
  | .ldLE => Sys2Proof.Machine.execLdLE s
  | .ldLH => Sys2Proof.Machine.execLdLH s
  | .ldLL => Sys2Proof.Machine.execLdLL s
  | .ldLA => Sys2Proof.Machine.execLdLA s
  | .ldAB => Sys2Proof.Machine.execLdAB s
  | .ldAC => Sys2Proof.Machine.execLdAC s
  | .ldAD => Sys2Proof.Machine.execLdAD s
  | .ldAE => Sys2Proof.Machine.execLdAE s
  | .ldAH => Sys2Proof.Machine.execLdAH s
  | .ldAL => Sys2Proof.Machine.execLdAL s
  | .ldAA => Sys2Proof.Machine.execLdAA s
  | .ldBAtHl => Sys2Proof.Machine.execLdBAtHl s
  | .ldAtHlB => Sys2Proof.Machine.execLdAtHlB s
  | .ldCAtHl => Sys2Proof.Machine.execLdCAtHl s
  | .ldAtHlC => Sys2Proof.Machine.execLdAtHlC s
  | .ldDAtHl => Sys2Proof.Machine.execLdDAtHl s
  | .ldAtHlD => Sys2Proof.Machine.execLdAtHlD s
  | .ldEAtHl => Sys2Proof.Machine.execLdEAtHl s
  | .ldAtHlE => Sys2Proof.Machine.execLdAtHlE s
  | .ldHAtHl => Sys2Proof.Machine.execLdHAtHl s
  | .ldAtHlH => Sys2Proof.Machine.execLdAtHlH s
  | .ldLAtHl => Sys2Proof.Machine.execLdLAtHl s
  | .ldAtHlL => Sys2Proof.Machine.execLdAtHlL s
  | .ldAAtHl => Sys2Proof.Machine.execLdAAtHl s
  | .ldAtHlA => Sys2Proof.Machine.execLdAtHlA s
  | .halt => Sys2Proof.Machine.execHalt s
  | .addAB => Sys2Proof.Machine.execAddAB s
  | .addAC => Sys2Proof.Machine.execAddAC s
  | .addAD => Sys2Proof.Machine.execAddAD s
  | .addAE => Sys2Proof.Machine.execAddAE s
  | .addAH => Sys2Proof.Machine.execAddAH s
  | .addAL => Sys2Proof.Machine.execAddAL s
  | .addAA => Sys2Proof.Machine.execAddAA s
  | .addAAtHl => Sys2Proof.Machine.execAddAAtHl s
  | .addAN n => Sys2Proof.Machine.execAddAN n s
  | .adcAB => Sys2Proof.Machine.execAdcAB s
  | .adcAC => Sys2Proof.Machine.execAdcAC s
  | .adcAD => Sys2Proof.Machine.execAdcAD s
  | .adcAE => Sys2Proof.Machine.execAdcAE s
  | .adcAH => Sys2Proof.Machine.execAdcAH s
  | .adcAL => Sys2Proof.Machine.execAdcAL s
  | .adcAA => Sys2Proof.Machine.execAdcAA s
  | .adcAAtHl => Sys2Proof.Machine.execAdcAAtHl s
  | .adcAN n => Sys2Proof.Machine.execAdcAN n s
  | .subB => Sys2Proof.Machine.execSubB s
  | .subC => Sys2Proof.Machine.execSubC s
  | .subD => Sys2Proof.Machine.execSubD s
  | .subE => Sys2Proof.Machine.execSubE s
  | .subH => Sys2Proof.Machine.execSubH s
  | .subL => Sys2Proof.Machine.execSubL s
  | .subA => Sys2Proof.Machine.execSubA s
  | .subAtHl => Sys2Proof.Machine.execSubAtHl s
  | .subN n => Sys2Proof.Machine.execSubN n s
  | .sbcAB => Sys2Proof.Machine.execSbcAB s
  | .sbcAC => Sys2Proof.Machine.execSbcAC s
  | .sbcAD => Sys2Proof.Machine.execSbcAD s
  | .sbcAE => Sys2Proof.Machine.execSbcAE s
  | .sbcAH => Sys2Proof.Machine.execSbcAH s
  | .sbcAL => Sys2Proof.Machine.execSbcAL s
  | .sbcAA => Sys2Proof.Machine.execSbcAA s
  | .sbcAAtHl => Sys2Proof.Machine.execSbcAAtHl s
  | .sbcAN n => Sys2Proof.Machine.execSbcAN n s
  | .andB => Sys2Proof.Machine.execAndB s
  | .andC => Sys2Proof.Machine.execAndC s
  | .andD => Sys2Proof.Machine.execAndD s
  | .andE => Sys2Proof.Machine.execAndE s
  | .andH => Sys2Proof.Machine.execAndH s
  | .andL => Sys2Proof.Machine.execAndL s
  | .andA => Sys2Proof.Machine.execAndA s
  | .andAtHl => Sys2Proof.Machine.execAndAtHl s
  | .andN n => Sys2Proof.Machine.execAndN n s
  | .xorB => Sys2Proof.Machine.execXorB s
  | .xorC => Sys2Proof.Machine.execXorC s
  | .xorD => Sys2Proof.Machine.execXorD s
  | .xorE => Sys2Proof.Machine.execXorE s
  | .xorH => Sys2Proof.Machine.execXorH s
  | .xorL => Sys2Proof.Machine.execXorL s
  | .xorA => Sys2Proof.Machine.execXorA s
  | .xorAtHl => Sys2Proof.Machine.execXorAtHl s
  | .xorN n => Sys2Proof.Machine.execXorN n s
  | .orB => Sys2Proof.Machine.execOrB s
  | .orC => Sys2Proof.Machine.execOrC s
  | .orD => Sys2Proof.Machine.execOrD s
  | .orE => Sys2Proof.Machine.execOrE s
  | .orH => Sys2Proof.Machine.execOrH s
  | .orL => Sys2Proof.Machine.execOrL s
  | .orA => Sys2Proof.Machine.execOrA s
  | .orAtHl => Sys2Proof.Machine.execOrAtHl s
  | .orN n => Sys2Proof.Machine.execOrN n s
  | .cpB => Sys2Proof.Machine.execCpB s
  | .cpC => Sys2Proof.Machine.execCpC s
  | .cpD => Sys2Proof.Machine.execCpD s
  | .cpE => Sys2Proof.Machine.execCpE s
  | .cpH => Sys2Proof.Machine.execCpH s
  | .cpL => Sys2Proof.Machine.execCpL s
  | .cpA => Sys2Proof.Machine.execCpA s
  | .cpAtHl => Sys2Proof.Machine.execCpAtHl s
  | .cpN n => Sys2Proof.Machine.execCpN n s
  | .retCc cc => Sys2Proof.Machine.execRetCc cc s
  | .popQq q => Sys2Proof.Machine.execPopQq q s
  | .jpCcNn cc nn => Sys2Proof.Machine.execJpCcNn cc nn s
  | .jpNn nn => Sys2Proof.Machine.execJpNn nn s
  | .callCcNn cc nn => Sys2Proof.Machine.execCallCcNn cc nn s
  | .pushQq q => Sys2Proof.Machine.execPushQq q s
  | .rstP p => Sys2Proof.Machine.execRstP p s
  | .ret => Sys2Proof.Machine.execRet s
  | .callNn nn => Sys2Proof.Machine.execCallNn nn s
  | .outPortNA n => Sys2Proof.Machine.execOutPortNA n s
  | .inAPortN n => Sys2Proof.Machine.execInAPortN n s
  | .exx => Sys2Proof.Machine.execExx s
  | .exAtSpHl => Sys2Proof.Machine.execExAtSpHl s
  | .jpHl => Sys2Proof.Machine.execJpHl s
  | .exDeHl => Sys2Proof.Machine.execExDeHl s
  | .di => Sys2Proof.Machine.execDi s
  | .ldSpHl => Sys2Proof.Machine.execLdSpHl s
  | .ei => Sys2Proof.Machine.execEi s
  | .rlcB => Sys2Proof.Machine.execRlcB s
  | .rlcC => Sys2Proof.Machine.execRlcC s
  | .rlcD => Sys2Proof.Machine.execRlcD s
  | .rlcE => Sys2Proof.Machine.execRlcE s
  | .rlcH => Sys2Proof.Machine.execRlcH s
  | .rlcL => Sys2Proof.Machine.execRlcL s
  | .rlcA => Sys2Proof.Machine.execRlcA s
  | .rlcAtHl => Sys2Proof.Machine.execRlcAtHl s
  | .rlcAtIxd d => Sys2Proof.Machine.execRlcAtIxd d s
  | .rlcAtIyd d => Sys2Proof.Machine.execRlcAtIyd d s
  | .rrcB => Sys2Proof.Machine.execRrcB s
  | .rrcC => Sys2Proof.Machine.execRrcC s
  | .rrcD => Sys2Proof.Machine.execRrcD s
  | .rrcE => Sys2Proof.Machine.execRrcE s
  | .rrcH => Sys2Proof.Machine.execRrcH s
  | .rrcL => Sys2Proof.Machine.execRrcL s
  | .rrcA => Sys2Proof.Machine.execRrcA s
  | .rrcAtHl => Sys2Proof.Machine.execRrcAtHl s
  | .rrcAtIxd d => Sys2Proof.Machine.execRrcAtIxd d s
  | .rrcAtIyd d => Sys2Proof.Machine.execRrcAtIyd d s
  | .rlB => Sys2Proof.Machine.execRlB s
  | .rlC => Sys2Proof.Machine.execRlC s
  | .rlD => Sys2Proof.Machine.execRlD s
  | .rlE => Sys2Proof.Machine.execRlE s
  | .rlH => Sys2Proof.Machine.execRlH s
  | .rlL => Sys2Proof.Machine.execRlL s
  | .rlA => Sys2Proof.Machine.execRlA s
  | .rlAtHl => Sys2Proof.Machine.execRlAtHl s
  | .rlAtIxd d => Sys2Proof.Machine.execRlAtIxd d s
  | .rlAtIyd d => Sys2Proof.Machine.execRlAtIyd d s
  | .rrB => Sys2Proof.Machine.execRrB s
  | .rrC => Sys2Proof.Machine.execRrC s
  | .rrD => Sys2Proof.Machine.execRrD s
  | .rrE => Sys2Proof.Machine.execRrE s
  | .rrH => Sys2Proof.Machine.execRrH s
  | .rrL => Sys2Proof.Machine.execRrL s
  | .rrA => Sys2Proof.Machine.execRrA s
  | .rrAtHl => Sys2Proof.Machine.execRrAtHl s
  | .rrAtIxd d => Sys2Proof.Machine.execRrAtIxd d s
  | .rrAtIyd d => Sys2Proof.Machine.execRrAtIyd d s
  | .slaB => Sys2Proof.Machine.execSlaB s
  | .slaC => Sys2Proof.Machine.execSlaC s
  | .slaD => Sys2Proof.Machine.execSlaD s
  | .slaE => Sys2Proof.Machine.execSlaE s
  | .slaH => Sys2Proof.Machine.execSlaH s
  | .slaL => Sys2Proof.Machine.execSlaL s
  | .slaA => Sys2Proof.Machine.execSlaA s
  | .slaAtHl => Sys2Proof.Machine.execSlaAtHl s
  | .slaAtIxd d => Sys2Proof.Machine.execSlaAtIxd d s
  | .slaAtIyd d => Sys2Proof.Machine.execSlaAtIyd d s
  | .sraB => Sys2Proof.Machine.execSraB s
  | .sraC => Sys2Proof.Machine.execSraC s
  | .sraD => Sys2Proof.Machine.execSraD s
  | .sraE => Sys2Proof.Machine.execSraE s
  | .sraH => Sys2Proof.Machine.execSraH s
  | .sraL => Sys2Proof.Machine.execSraL s
  | .sraA => Sys2Proof.Machine.execSraA s
  | .sraAtHl => Sys2Proof.Machine.execSraAtHl s
  | .sraAtIxd d => Sys2Proof.Machine.execSraAtIxd d s
  | .sraAtIyd d => Sys2Proof.Machine.execSraAtIyd d s
  | .srlB => Sys2Proof.Machine.execSrlB s
  | .srlC => Sys2Proof.Machine.execSrlC s
  | .srlD => Sys2Proof.Machine.execSrlD s
  | .srlE => Sys2Proof.Machine.execSrlE s
  | .srlH => Sys2Proof.Machine.execSrlH s
  | .srlL => Sys2Proof.Machine.execSrlL s
  | .srlA => Sys2Proof.Machine.execSrlA s
  | .srlAtHl => Sys2Proof.Machine.execSrlAtHl s
  | .srlAtIxd d => Sys2Proof.Machine.execSrlAtIxd d s
  | .srlAtIyd d => Sys2Proof.Machine.execSrlAtIyd d s
  | .bitB b => Sys2Proof.Machine.execBitB b s
  | .bitC b => Sys2Proof.Machine.execBitC b s
  | .bitD b => Sys2Proof.Machine.execBitD b s
  | .bitE b => Sys2Proof.Machine.execBitE b s
  | .bitH b => Sys2Proof.Machine.execBitH b s
  | .bitL b => Sys2Proof.Machine.execBitL b s
  | .bitA b => Sys2Proof.Machine.execBitA b s
  | .bitAtHl b => Sys2Proof.Machine.execBitAtHl b s
  | .bitAtIxd b d => Sys2Proof.Machine.execBitAtIxd b d s
  | .bitAtIyd b d => Sys2Proof.Machine.execBitAtIyd b d s
  | .resB b => Sys2Proof.Machine.execResB b s
  | .resC b => Sys2Proof.Machine.execResC b s
  | .resD b => Sys2Proof.Machine.execResD b s
  | .resE b => Sys2Proof.Machine.execResE b s
  | .resH b => Sys2Proof.Machine.execResH b s
  | .resL b => Sys2Proof.Machine.execResL b s
  | .resA b => Sys2Proof.Machine.execResA b s
  | .resAtHl b => Sys2Proof.Machine.execResAtHl b s
  | .resAtIxd b d => Sys2Proof.Machine.execResAtIxd b d s
  | .resAtIyd b d => Sys2Proof.Machine.execResAtIyd b d s
  | .setB b => Sys2Proof.Machine.execSetB b s
  | .setC b => Sys2Proof.Machine.execSetC b s
  | .setD b => Sys2Proof.Machine.execSetD b s
  | .setE b => Sys2Proof.Machine.execSetE b s
  | .setH b => Sys2Proof.Machine.execSetH b s
  | .setL b => Sys2Proof.Machine.execSetL b s
  | .setA b => Sys2Proof.Machine.execSetA b s
  | .setAtHl b => Sys2Proof.Machine.execSetAtHl b s
  | .setAtIxd b d => Sys2Proof.Machine.execSetAtIxd b d s
  | .setAtIyd b d => Sys2Proof.Machine.execSetAtIyd b d s
  | .trap => Sys2Proof.Machine.execTrap s
  | .inBPortC => Sys2Proof.Machine.execInBPortC s
  | .outPortCB => Sys2Proof.Machine.execOutPortCB s
  | .inCPortC => Sys2Proof.Machine.execInCPortC s
  | .outPortCC => Sys2Proof.Machine.execOutPortCC s
  | .inDPortC => Sys2Proof.Machine.execInDPortC s
  | .outPortCD => Sys2Proof.Machine.execOutPortCD s
  | .inEPortC => Sys2Proof.Machine.execInEPortC s
  | .outPortCE => Sys2Proof.Machine.execOutPortCE s
  | .inHPortC => Sys2Proof.Machine.execInHPortC s
  | .outPortCH => Sys2Proof.Machine.execOutPortCH s
  | .inLPortC => Sys2Proof.Machine.execInLPortC s
  | .outPortCL => Sys2Proof.Machine.execOutPortCL s
  | .inAPortC => Sys2Proof.Machine.execInAPortC s
  | .outPortCA => Sys2Proof.Machine.execOutPortCA s
  | .sbcHlPp p => Sys2Proof.Machine.execSbcHlPp p s
  | .adcHlPp p => Sys2Proof.Machine.execAdcHlPp p s
  | .ldAtNnPp nn p => Sys2Proof.Machine.execLdAtNnPp nn p s
  | .ldPpAtNn p nn => Sys2Proof.Machine.execLdPpAtNn p nn s
  | .neg => Sys2Proof.Machine.execNeg s
  | .retn => Sys2Proof.Machine.execRetn s
  | .im0 => Sys2Proof.Machine.execIm0 s
  | .im1 => Sys2Proof.Machine.execIm1 s
  | .im2 => Sys2Proof.Machine.execIm2 s
  | .ldIA => Sys2Proof.Machine.execLdIA s
  | .ldAI => Sys2Proof.Machine.execLdAI s
  | .reti => Sys2Proof.Machine.execReti s
  | .rrd => Sys2Proof.Machine.execRrd s
  | .rld => Sys2Proof.Machine.execRld s
  | .ldi => Sys2Proof.Machine.execLdi s
  | .cpi => Sys2Proof.Machine.execCpi s
  | .ini => Sys2Proof.Machine.execIni s
  | .outi => Sys2Proof.Machine.execOuti s
  | .ldd => Sys2Proof.Machine.execLdd s
  | .cpd => Sys2Proof.Machine.execCpd s
  | .ind => Sys2Proof.Machine.execInd s
  | .outd => Sys2Proof.Machine.execOutd s
  | .ldir => Sys2Proof.Machine.execLdir s
  | .cpir => Sys2Proof.Machine.execCpir s
  | .inir => Sys2Proof.Machine.execInir s
  | .otir => Sys2Proof.Machine.execOtir s
  | .lddr => Sys2Proof.Machine.execLddr s
  | .cpdr => Sys2Proof.Machine.execCpdr s
  | .indr => Sys2Proof.Machine.execIndr s
  | .otdr => Sys2Proof.Machine.execOtdr s
  | .addIxPp p => Sys2Proof.Machine.execAddIxPp p s
  | .ldIxNn nn => Sys2Proof.Machine.execLdIxNn nn s
  | .ldAtNnIx nn => Sys2Proof.Machine.execLdAtNnIx nn s
  | .incIx => Sys2Proof.Machine.execIncIx s
  | .ldIxAtNn nn => Sys2Proof.Machine.execLdIxAtNn nn s
  | .decIx => Sys2Proof.Machine.execDecIx s
  | .incAtIxd d => Sys2Proof.Machine.execIncAtIxd d s
  | .decAtIxd d => Sys2Proof.Machine.execDecAtIxd d s
  | .ldAtIxdN d n => Sys2Proof.Machine.execLdAtIxdN d n s
  | .ldBAtIxd d => Sys2Proof.Machine.execLdBAtIxd d s
  | .ldAtIxdB d => Sys2Proof.Machine.execLdAtIxdB d s
  | .ldCAtIxd d => Sys2Proof.Machine.execLdCAtIxd d s
  | .ldAtIxdC d => Sys2Proof.Machine.execLdAtIxdC d s
  | .ldDAtIxd d => Sys2Proof.Machine.execLdDAtIxd d s
  | .ldAtIxdD d => Sys2Proof.Machine.execLdAtIxdD d s
  | .ldEAtIxd d => Sys2Proof.Machine.execLdEAtIxd d s
  | .ldAtIxdE d => Sys2Proof.Machine.execLdAtIxdE d s
  | .ldHAtIxd d => Sys2Proof.Machine.execLdHAtIxd d s
  | .ldAtIxdH d => Sys2Proof.Machine.execLdAtIxdH d s
  | .ldLAtIxd d => Sys2Proof.Machine.execLdLAtIxd d s
  | .ldAtIxdL d => Sys2Proof.Machine.execLdAtIxdL d s
  | .ldAAtIxd d => Sys2Proof.Machine.execLdAAtIxd d s
  | .ldAtIxdA d => Sys2Proof.Machine.execLdAtIxdA d s
  | .addAAtIxd d => Sys2Proof.Machine.execAddAAtIxd d s
  | .adcAAtIxd d => Sys2Proof.Machine.execAdcAAtIxd d s
  | .subAtIxd d => Sys2Proof.Machine.execSubAtIxd d s
  | .sbcAAtIxd d => Sys2Proof.Machine.execSbcAAtIxd d s
  | .andAtIxd d => Sys2Proof.Machine.execAndAtIxd d s
  | .xorAtIxd d => Sys2Proof.Machine.execXorAtIxd d s
  | .orAtIxd d => Sys2Proof.Machine.execOrAtIxd d s
  | .cpAtIxd d => Sys2Proof.Machine.execCpAtIxd d s
  | .popIx => Sys2Proof.Machine.execPopIx s
  | .exAtSpIx => Sys2Proof.Machine.execExAtSpIx s
  | .pushIx => Sys2Proof.Machine.execPushIx s
  | .jpIx => Sys2Proof.Machine.execJpIx s
  | .ldSpIx => Sys2Proof.Machine.execLdSpIx s
  | .addIyPp p => Sys2Proof.Machine.execAddIyPp p s
  | .ldIyNn nn => Sys2Proof.Machine.execLdIyNn nn s
  | .ldAtNnIy nn => Sys2Proof.Machine.execLdAtNnIy nn s
  | .incIy => Sys2Proof.Machine.execIncIy s
  | .ldIyAtNn nn => Sys2Proof.Machine.execLdIyAtNn nn s
  | .decIy => Sys2Proof.Machine.execDecIy s
  | .incAtIyd d => Sys2Proof.Machine.execIncAtIyd d s
  | .decAtIyd d => Sys2Proof.Machine.execDecAtIyd d s
  | .ldAtIydN d n => Sys2Proof.Machine.execLdAtIydN d n s
  | .ldBAtIyd d => Sys2Proof.Machine.execLdBAtIyd d s
  | .ldAtIydB d => Sys2Proof.Machine.execLdAtIydB d s
  | .ldCAtIyd d => Sys2Proof.Machine.execLdCAtIyd d s
  | .ldAtIydC d => Sys2Proof.Machine.execLdAtIydC d s
  | .ldDAtIyd d => Sys2Proof.Machine.execLdDAtIyd d s
  | .ldAtIydD d => Sys2Proof.Machine.execLdAtIydD d s
  | .ldEAtIyd d => Sys2Proof.Machine.execLdEAtIyd d s
  | .ldAtIydE d => Sys2Proof.Machine.execLdAtIydE d s
  | .ldHAtIyd d => Sys2Proof.Machine.execLdHAtIyd d s
  | .ldAtIydH d => Sys2Proof.Machine.execLdAtIydH d s
  | .ldLAtIyd d => Sys2Proof.Machine.execLdLAtIyd d s
  | .ldAtIydL d => Sys2Proof.Machine.execLdAtIydL d s
  | .ldAAtIyd d => Sys2Proof.Machine.execLdAAtIyd d s
  | .ldAtIydA d => Sys2Proof.Machine.execLdAtIydA d s
  | .addAAtIyd d => Sys2Proof.Machine.execAddAAtIyd d s
  | .adcAAtIyd d => Sys2Proof.Machine.execAdcAAtIyd d s
  | .subAtIyd d => Sys2Proof.Machine.execSubAtIyd d s
  | .sbcAAtIyd d => Sys2Proof.Machine.execSbcAAtIyd d s
  | .andAtIyd d => Sys2Proof.Machine.execAndAtIyd d s
  | .xorAtIyd d => Sys2Proof.Machine.execXorAtIyd d s
  | .orAtIyd d => Sys2Proof.Machine.execOrAtIyd d s
  | .cpAtIyd d => Sys2Proof.Machine.execCpAtIyd d s
  | .popIy => Sys2Proof.Machine.execPopIy s
  | .exAtSpIy => Sys2Proof.Machine.execExAtSpIy s
  | .pushIy => Sys2Proof.Machine.execPushIy s
  | .jpIy => Sys2Proof.Machine.execJpIy s
  | .ldSpIy => Sys2Proof.Machine.execLdSpIy s

end Sys2Proof.Machine
end

