-- ==== Sys2Proof/Decode.lean ====
section
/-! DEFINITION. The decoder (30_encoding.md R90 to R115), total on any bytes, and the encoder, written
from the rows of spec/opcode_table.json. The decoder reads the bit fields of R106 to R110; the two are
written independently of each other. -/

namespace Sys2Proof

/-- `LD r1,r2` (R220). -/
def Form.ldRR : Reg8 → Reg8 → Instr
  | .b, .b => .ldBB
  | .b, .c => .ldBC
  | .b, .d => .ldBD
  | .b, .e => .ldBE
  | .b, .h => .ldBH
  | .b, .l => .ldBL
  | .b, .a => .ldBA
  | .c, .b => .ldCB
  | .c, .c => .ldCC
  | .c, .d => .ldCD
  | .c, .e => .ldCE
  | .c, .h => .ldCH
  | .c, .l => .ldCL
  | .c, .a => .ldCA
  | .d, .b => .ldDB
  | .d, .c => .ldDC
  | .d, .d => .ldDD
  | .d, .e => .ldDE
  | .d, .h => .ldDH
  | .d, .l => .ldDL
  | .d, .a => .ldDA
  | .e, .b => .ldEB
  | .e, .c => .ldEC
  | .e, .d => .ldED
  | .e, .e => .ldEE
  | .e, .h => .ldEH
  | .e, .l => .ldEL
  | .e, .a => .ldEA
  | .h, .b => .ldHB
  | .h, .c => .ldHC
  | .h, .d => .ldHD
  | .h, .e => .ldHE
  | .h, .h => .ldHH
  | .h, .l => .ldHL
  | .h, .a => .ldHA
  | .l, .b => .ldLB
  | .l, .c => .ldLC
  | .l, .d => .ldLD
  | .l, .e => .ldLE
  | .l, .h => .ldLH
  | .l, .l => .ldLL
  | .l, .a => .ldLA
  | .a, .b => .ldAB
  | .a, .c => .ldAC
  | .a, .d => .ldAD
  | .a, .e => .ldAE
  | .a, .h => .ldAH
  | .a, .l => .ldAL
  | .a, .a => .ldAA

/-- `LD r,n` (R221). -/
def Form.ldRN : Reg8 → Byte → Instr
  | .b, n => .ldBN n
  | .c, n => .ldCN n
  | .d, n => .ldDN n
  | .e, n => .ldEN n
  | .h, n => .ldHN n
  | .l, n => .ldLN n
  | .a, n => .ldAN n

/-- `LD r,(HL)` (R222). -/
def Form.ldRAtHl : Reg8 → Instr
  | .b => .ldBAtHl
  | .c => .ldCAtHl
  | .d => .ldDAtHl
  | .e => .ldEAtHl
  | .h => .ldHAtHl
  | .l => .ldLAtHl
  | .a => .ldAAtHl

/-- `LD (HL),r` (R224). -/
def Form.ldAtHlR : Reg8 → Instr
  | .b => .ldAtHlB
  | .c => .ldAtHlC
  | .d => .ldAtHlD
  | .e => .ldAtHlE
  | .h => .ldAtHlH
  | .l => .ldAtHlL
  | .a => .ldAtHlA

/-- `LD r,(XY+d)` (R223). -/
def Form.ldRAtXyd : Reg8 → Idx → Byte → Instr
  | .b, .ix, d => .ldBAtIxd d
  | .b, .iy, d => .ldBAtIyd d
  | .c, .ix, d => .ldCAtIxd d
  | .c, .iy, d => .ldCAtIyd d
  | .d, .ix, d => .ldDAtIxd d
  | .d, .iy, d => .ldDAtIyd d
  | .e, .ix, d => .ldEAtIxd d
  | .e, .iy, d => .ldEAtIyd d
  | .h, .ix, d => .ldHAtIxd d
  | .h, .iy, d => .ldHAtIyd d
  | .l, .ix, d => .ldLAtIxd d
  | .l, .iy, d => .ldLAtIyd d
  | .a, .ix, d => .ldAAtIxd d
  | .a, .iy, d => .ldAAtIyd d

/-- `LD (XY+d),r` (R225). -/
def Form.ldAtXydR : Idx → Byte → Reg8 → Instr
  | .ix, d, .b => .ldAtIxdB d
  | .ix, d, .c => .ldAtIxdC d
  | .ix, d, .d => .ldAtIxdD d
  | .ix, d, .e => .ldAtIxdE d
  | .ix, d, .h => .ldAtIxdH d
  | .ix, d, .l => .ldAtIxdL d
  | .ix, d, .a => .ldAtIxdA d
  | .iy, d, .b => .ldAtIydB d
  | .iy, d, .c => .ldAtIydC d
  | .iy, d, .d => .ldAtIydD d
  | .iy, d, .e => .ldAtIydE d
  | .iy, d, .h => .ldAtIydH d
  | .iy, d, .l => .ldAtIydL d
  | .iy, d, .a => .ldAtIydA d

/-- `LD (XY+d),n` (R227, R228). -/
def Form.ldAtXydN : Idx → Byte → Byte → Instr
  | .ix, d, n => .ldAtIxdN d n
  | .iy, d, n => .ldAtIydN d n

/-- The arithmetic and logic group on a register (R135 to R206). -/
def Form.aluR : Alu → Reg8 → Instr
  | .add, .b => .addAB
  | .add, .c => .addAC
  | .add, .d => .addAD
  | .add, .e => .addAE
  | .add, .h => .addAH
  | .add, .l => .addAL
  | .add, .a => .addAA
  | .adc, .b => .adcAB
  | .adc, .c => .adcAC
  | .adc, .d => .adcAD
  | .adc, .e => .adcAE
  | .adc, .h => .adcAH
  | .adc, .l => .adcAL
  | .adc, .a => .adcAA
  | .sub, .b => .subB
  | .sub, .c => .subC
  | .sub, .d => .subD
  | .sub, .e => .subE
  | .sub, .h => .subH
  | .sub, .l => .subL
  | .sub, .a => .subA
  | .sbc, .b => .sbcAB
  | .sbc, .c => .sbcAC
  | .sbc, .d => .sbcAD
  | .sbc, .e => .sbcAE
  | .sbc, .h => .sbcAH
  | .sbc, .l => .sbcAL
  | .sbc, .a => .sbcAA
  | .and, .b => .andB
  | .and, .c => .andC
  | .and, .d => .andD
  | .and, .e => .andE
  | .and, .h => .andH
  | .and, .l => .andL
  | .and, .a => .andA
  | .xor, .b => .xorB
  | .xor, .c => .xorC
  | .xor, .d => .xorD
  | .xor, .e => .xorE
  | .xor, .h => .xorH
  | .xor, .l => .xorL
  | .xor, .a => .xorA
  | .or, .b => .orB
  | .or, .c => .orC
  | .or, .d => .orD
  | .or, .e => .orE
  | .or, .h => .orH
  | .or, .l => .orL
  | .or, .a => .orA
  | .cp, .b => .cpB
  | .cp, .c => .cpC
  | .cp, .d => .cpD
  | .cp, .e => .cpE
  | .cp, .h => .cpH
  | .cp, .l => .cpL
  | .cp, .a => .cpA

/-- The same on an immediate byte. -/
def Form.aluN : Alu → Byte → Instr
  | .add, n => .addAN n
  | .adc, n => .adcAN n
  | .sub, n => .subN n
  | .sbc, n => .sbcAN n
  | .and, n => .andN n
  | .xor, n => .xorN n
  | .or, n => .orN n
  | .cp, n => .cpN n

/-- The same on `(HL)`. -/
def Form.aluAtHl : Alu → Instr
  | .add => .addAAtHl
  | .adc => .adcAAtHl
  | .sub => .subAtHl
  | .sbc => .sbcAAtHl
  | .and => .andAtHl
  | .xor => .xorAtHl
  | .or => .orAtHl
  | .cp => .cpAtHl

/-- The same on `(XY+d)`. -/
def Form.aluAtXyd : Alu → Idx → Byte → Instr
  | .add, .ix, d => .addAAtIxd d
  | .add, .iy, d => .addAAtIyd d
  | .adc, .ix, d => .adcAAtIxd d
  | .adc, .iy, d => .adcAAtIyd d
  | .sub, .ix, d => .subAtIxd d
  | .sub, .iy, d => .subAtIyd d
  | .sbc, .ix, d => .sbcAAtIxd d
  | .sbc, .iy, d => .sbcAAtIyd d
  | .and, .ix, d => .andAtIxd d
  | .and, .iy, d => .andAtIyd d
  | .xor, .ix, d => .xorAtIxd d
  | .xor, .iy, d => .xorAtIyd d
  | .or, .ix, d => .orAtIxd d
  | .or, .iy, d => .orAtIyd d
  | .cp, .ix, d => .cpAtIxd d
  | .cp, .iy, d => .cpAtIyd d

/-- `INC r` (R151). -/
def Form.incR : Reg8 → Instr
  | .b => .incB
  | .c => .incC
  | .d => .incD
  | .e => .incE
  | .h => .incH
  | .l => .incL
  | .a => .incA

/-- `INC (XY+d)` (R153, R154). -/
def Form.incAtXyd : Idx → Byte → Instr
  | .ix, d => .incAtIxd d
  | .iy, d => .incAtIyd d

/-- `DEC r` (R155). -/
def Form.decR : Reg8 → Instr
  | .b => .decB
  | .c => .decC
  | .d => .decD
  | .e => .decE
  | .h => .decH
  | .l => .decL
  | .a => .decA

/-- `DEC (XY+d)` (R157, R158). -/
def Form.decAtXyd : Idx → Byte → Instr
  | .ix, d => .decAtIxd d
  | .iy, d => .decAtIyd d

/-- The CB rotates and shifts on a register (R335 to R359). -/
def Form.rotR : Rot → Reg8 → Instr
  | .rlc, .b => .rlcB
  | .rlc, .c => .rlcC
  | .rlc, .d => .rlcD
  | .rlc, .e => .rlcE
  | .rlc, .h => .rlcH
  | .rlc, .l => .rlcL
  | .rlc, .a => .rlcA
  | .rrc, .b => .rrcB
  | .rrc, .c => .rrcC
  | .rrc, .d => .rrcD
  | .rrc, .e => .rrcE
  | .rrc, .h => .rrcH
  | .rrc, .l => .rrcL
  | .rrc, .a => .rrcA
  | .rl, .b => .rlB
  | .rl, .c => .rlC
  | .rl, .d => .rlD
  | .rl, .e => .rlE
  | .rl, .h => .rlH
  | .rl, .l => .rlL
  | .rl, .a => .rlA
  | .rr, .b => .rrB
  | .rr, .c => .rrC
  | .rr, .d => .rrD
  | .rr, .e => .rrE
  | .rr, .h => .rrH
  | .rr, .l => .rrL
  | .rr, .a => .rrA
  | .sla, .b => .slaB
  | .sla, .c => .slaC
  | .sla, .d => .slaD
  | .sla, .e => .slaE
  | .sla, .h => .slaH
  | .sla, .l => .slaL
  | .sla, .a => .slaA
  | .sra, .b => .sraB
  | .sra, .c => .sraC
  | .sra, .d => .sraD
  | .sra, .e => .sraE
  | .sra, .h => .sraH
  | .sra, .l => .sraL
  | .sra, .a => .sraA
  | .srl, .b => .srlB
  | .srl, .c => .srlC
  | .srl, .d => .srlD
  | .srl, .e => .srlE
  | .srl, .h => .srlH
  | .srl, .l => .srlL
  | .srl, .a => .srlA

/-- The same on `(HL)`. -/
def Form.rotAtHl : Rot → Instr
  | .rlc => .rlcAtHl
  | .rrc => .rrcAtHl
  | .rl => .rlAtHl
  | .rr => .rrAtHl
  | .sla => .slaAtHl
  | .sra => .sraAtHl
  | .srl => .srlAtHl

/-- The same on `(XY+d)`. -/
def Form.rotAtXyd : Rot → Idx → Byte → Instr
  | .rlc, .ix, d => .rlcAtIxd d
  | .rlc, .iy, d => .rlcAtIyd d
  | .rrc, .ix, d => .rrcAtIxd d
  | .rrc, .iy, d => .rrcAtIyd d
  | .rl, .ix, d => .rlAtIxd d
  | .rl, .iy, d => .rlAtIyd d
  | .rr, .ix, d => .rrAtIxd d
  | .rr, .iy, d => .rrAtIyd d
  | .sla, .ix, d => .slaAtIxd d
  | .sla, .iy, d => .slaAtIyd d
  | .sra, .ix, d => .sraAtIxd d
  | .sra, .iy, d => .sraAtIyd d
  | .srl, .ix, d => .srlAtIxd d
  | .srl, .iy, d => .srlAtIyd d

/-- `BIT b,r` (R365 to R368). -/
def Form.bitR : BitVec 3 → Reg8 → Instr
  | b, .b => .bitB b
  | b, .c => .bitC b
  | b, .d => .bitD b
  | b, .e => .bitE b
  | b, .h => .bitH b
  | b, .l => .bitL b
  | b, .a => .bitA b

/-- `BIT b,(XY+d)` (R365 to R368). -/
def Form.bitAtXyd : BitVec 3 → Idx → Byte → Instr
  | b, .ix, d => .bitAtIxd b d
  | b, .iy, d => .bitAtIyd b d

/-- `RES b,r` (R373 to R376). -/
def Form.resR : BitVec 3 → Reg8 → Instr
  | b, .b => .resB b
  | b, .c => .resC b
  | b, .d => .resD b
  | b, .e => .resE b
  | b, .h => .resH b
  | b, .l => .resL b
  | b, .a => .resA b

/-- `RES b,(XY+d)` (R373 to R376). -/
def Form.resAtXyd : BitVec 3 → Idx → Byte → Instr
  | b, .ix, d => .resAtIxd b d
  | b, .iy, d => .resAtIyd b d

/-- `SET b,r` (R369 to R372). -/
def Form.setR : BitVec 3 → Reg8 → Instr
  | b, .b => .setB b
  | b, .c => .setC b
  | b, .d => .setD b
  | b, .e => .setE b
  | b, .h => .setH b
  | b, .l => .setL b
  | b, .a => .setA b

/-- `SET b,(XY+d)` (R369 to R372). -/
def Form.setAtXyd : BitVec 3 → Idx → Byte → Instr
  | b, .ix, d => .setAtIxd b d
  | b, .iy, d => .setAtIyd b d

/-- `IN r,(C)` (R391). -/
def Form.inRPortC : Reg8 → Instr
  | .b => .inBPortC
  | .c => .inCPortC
  | .d => .inDPortC
  | .e => .inEPortC
  | .h => .inHPortC
  | .l => .inLPortC
  | .a => .inAPortC

/-- `OUT (C),r` (R393). -/
def Form.outPortCR : Reg8 → Instr
  | .b => .outPortCB
  | .c => .outPortCC
  | .d => .outPortCD
  | .e => .outPortCE
  | .h => .outPortCH
  | .l => .outPortCL
  | .a => .outPortCA

/-- `ADD XY,pp` (R174, R175). -/
def Form.addXyPp : Idx → PairX → Instr
  | .ix, p => .addIxPp p
  | .iy, p => .addIyPp p

/-- `LD XY,nn` (R251, R252). -/
def Form.ldXyNn : Idx → Word → Instr
  | .ix, nn => .ldIxNn nn
  | .iy, nn => .ldIyNn nn

/-- `LD (nn),XY` (R256, R257). -/
def Form.ldAtNnXy : Word → Idx → Instr
  | nn, .ix => .ldAtNnIx nn
  | nn, .iy => .ldAtNnIy nn

/-- `LD XY,(nn)` (R260, R261). -/
def Form.ldXyAtNn : Idx → Word → Instr
  | .ix, nn => .ldIxAtNn nn
  | .iy, nn => .ldIyAtNn nn

/-- `INC XY` (R179). -/
def Form.incXy : Idx → Instr
  | .ix => .incIx
  | .iy => .incIy

/-- `DEC XY` (R181). -/
def Form.decXy : Idx → Instr
  | .ix => .decIx
  | .iy => .decIy

/-- `POP XY` (R268). -/
def Form.popXy : Idx → Instr
  | .ix => .popIx
  | .iy => .popIy

/-- `PUSH XY` (R266). -/
def Form.pushXy : Idx → Instr
  | .ix => .pushIx
  | .iy => .pushIy

/-- `JP (XY)` (R303, R304). -/
def Form.jpXy : Idx → Instr
  | .ix => .jpIx
  | .iy => .jpIy

/-- `EX (SP),XY` (R414, R415). -/
def Form.exAtSpXy : Idx → Instr
  | .ix => .exAtSpIx
  | .iy => .exAtSpIy

/-- `LD SP,XY` (R263, R264). -/
def Form.ldSpXy : Idx → Instr
  | .ix => .ldSpIx
  | .iy => .ldSpIy

/-- Why a string of bytes is not an instruction. -/
inductive DecodeError where
  /-- the bytes end inside an instruction -/
  | truncated
  /-- CB 30h to CB 37h (R113) -/
  | undefinedCb
  /-- an ED byte that R108 does not list, and ED 00h on the TSK80A (R112) -/
  | undefinedEd
  /-- a byte after DDh or FDh that R109 does not list (R114) -/
  | undefinedIndexed
  /-- a fourth byte after DD CB or FD CB that R110 does not list (R115) -/
  | undefinedIndexedCb
deriving DecidableEq, Repr

/-- What the opcode byte says of the rest of the instruction (R105): nothing follows, one byte `n`
or `e`, the two bytes of `nn`, a displacement, a displacement and a byte; or no instruction. -/
inductive Shape where
  | undef
  | plain (i : Instr)
  | imm8 (f : Byte → Instr)
  | imm16 (f : Word → Instr)
  | dispImm (f : Byte → Byte → Instr)

/-- The register a 3-bit code names; code 110 names none (R96). -/
def regOf (k : BitVec 3) : Option Reg8 :=
  match k.toNat with
  | 0 => some .b
  | 1 => some .c
  | 2 => some .d
  | 3 => some .e
  | 4 => some .h
  | 5 => some .l
  | 7 => some .a
  | _ => none

/-- The pair a `pp` field names (R97). -/
def pairOf (k : BitVec 2) : Pair :=
  match k.toNat with
  | 0 => .bc
  | 1 => .de
  | 2 => .hl
  | _ => .sp

/-- The pair a `qq` field names (R98). -/
def pairQOf (k : BitVec 2) : PairQ :=
  match k.toNat with
  | 0 => .bc
  | 1 => .de
  | 2 => .hl
  | _ => .af

/-- The source of `ADD XY,pp` (R97). -/
def pairXOf (k : BitVec 2) : PairX :=
  match k.toNat with
  | 0 => .bc
  | 1 => .de
  | 2 => .self
  | _ => .sp

/-- The condition a `ccc` field names (R99). -/
def condOf (k : BitVec 3) : Cond :=
  match k.toNat with
  | 0 => .nz
  | 1 => .z
  | 2 => .nc
  | 3 => .c
  | 4 => .po
  | 5 => .pe
  | 6 => .p
  | _ => .m

/-- The condition of `JR cc,e` (R99). -/
def cond4Of (k : BitVec 2) : Cond4 :=
  match k.toNat with
  | 0 => .nz
  | 1 => .z
  | 2 => .nc
  | _ => .c

/-- The operation that bits 5 to 3 select in 80h to BFh and in the `n` forms (R106). -/
def aluOf (k : BitVec 3) : Alu :=
  match k.toNat with
  | 0 => .add
  | 1 => .adc
  | 2 => .sub
  | 3 => .sbc
  | 4 => .and
  | 5 => .xor
  | 6 => .or
  | _ => .cp

/-- The CB operation that bits 5 to 3 select below 40h; 110 is not supported (R107, R113). -/
def rotOf (k : BitVec 3) : Option Rot :=
  match k.toNat with
  | 0 => some .rlc
  | 1 => some .rrc
  | 2 => some .rl
  | 3 => some .rr
  | 4 => some .sla
  | 5 => some .sra
  | 7 => some .srl
  | _ => none

/-- Bits 5 to 3 of an opcode byte. -/
def fieldY (b : Byte) : BitVec 3 := b.extractLsb' 3 3

/-- Bits 2 to 0 of an opcode byte. -/
def fieldZ (b : Byte) : BitVec 3 := b.extractLsb' 0 3

/-- Bits 5 and 4 of an opcode byte. -/
def fieldP (b : Byte) : BitVec 2 := b.extractLsb' 4 2

/-- R106, 00h to 3Fh. -/
def baseShape0 (b : Byte) : Shape :=
  match (fieldZ b).toNat with
  | 0 =>
    match (fieldY b).toNat with
    | 0 => .plain .nop
    | 1 => .plain .exAfAf
    | 2 => .imm8 .djnzE
    | 3 => .imm8 .jrE
    | _ => .imm8 (.jrCcE (cond4Of (b.extractLsb' 3 2)))
  | 1 => if b.getLsbD 3 then .plain (.addHlPp (pairOf (fieldP b))) else .imm16 (.ldPpNn (pairOf (fieldP b)))
  | 2 =>
    match (fieldY b).toNat with
    | 0 => .plain .ldAtBcA
    | 1 => .plain .ldAAtBc
    | 2 => .plain .ldAtDeA
    | 3 => .plain .ldAAtDe
    | 4 => .imm16 .ldAtNnHl
    | 5 => .imm16 .ldHlAtNn
    | 6 => .imm16 .ldAtNnA
    | _ => .imm16 .ldAAtNn
  | 3 => if b.getLsbD 3 then .plain (.decPp (pairOf (fieldP b))) else .plain (.incPp (pairOf (fieldP b)))
  | 4 =>
    match regOf (fieldY b) with
    | some r => .plain (Form.incR r)
    | none => .plain .incAtHl
  | 5 =>
    match regOf (fieldY b) with
    | some r => .plain (Form.decR r)
    | none => .plain .decAtHl
  | 6 =>
    match regOf (fieldY b) with
    | some r => .imm8 (Form.ldRN r)
    | none => .imm8 .ldAtHlN
  | _ =>
    match (fieldY b).toNat with
    | 0 => .plain .rlca
    | 1 => .plain .rrca
    | 2 => .plain .rla
    | 3 => .plain .rra
    | 4 => .plain .daa
    | 5 => .plain .cpl
    | 6 => .plain .scf
    | _ => .plain .ccf

/-- R106, 40h to 7Fh; 64h is the software breakpoint on the TSK80A_D (R111, R296). -/
def baseShape1 (v : Variant) (b : Byte) : Shape :=
  match regOf (fieldY b), regOf (fieldZ b) with
  | some .h, some .h => .plain (match v with | .tsk80a => .ldHH | .tsk80aD => .breakpoint64)
  | some r1, some r2 => .plain (Form.ldRR r1 r2)
  | some r, none => .plain (Form.ldRAtHl r)
  | none, some r => .plain (Form.ldAtHlR r)
  | none, none => .plain .halt

/-- R106, 80h to BFh. -/
def baseShape2 (b : Byte) : Shape :=
  match regOf (fieldZ b) with
  | some r => .plain (Form.aluR (aluOf (fieldY b)) r)
  | none => .plain (Form.aluAtHl (aluOf (fieldY b)))

/-- R106, C0h to FFh; the four prefixes are not instructions (R93). -/
def baseShape3 (b : Byte) : Shape :=
  match (fieldZ b).toNat with
  | 0 => .plain (.retCc (condOf (fieldY b)))
  | 1 =>
    match (fieldY b).toNat with
    | 1 => .plain .ret
    | 3 => .plain .exx
    | 5 => .plain .jpHl
    | 7 => .plain .ldSpHl
    | _ => .plain (.popQq (pairQOf (fieldP b)))
  | 2 => .imm16 (.jpCcNn (condOf (fieldY b)))
  | 3 =>
    match (fieldY b).toNat with
    | 0 => .imm16 .jpNn
    | 1 => .undef
    | 2 => .imm8 .outPortNA
    | 3 => .imm8 .inAPortN
    | 4 => .plain .exAtSpHl
    | 5 => .plain .exDeHl
    | 6 => .plain .di
    | _ => .plain .ei
  | 4 => .imm16 (.callCcNn (condOf (fieldY b)))
  | 5 =>
    match (fieldY b).toNat with
    | 1 => .imm16 .callNn
    | 3 => .undef
    | 5 => .undef
    | 7 => .undef
    | _ => .plain (.pushQq (pairQOf (fieldP b)))
  | 6 => .imm8 (Form.aluN (aluOf (fieldY b)))
  | _ => .plain (.rstP (b &&& 0x38))

/-- The map of the first byte (R106). -/
def baseShape (v : Variant) (b : Byte) : Shape :=
  match (b.extractLsb' 6 2).toNat with
  | 0 => baseShape0 b
  | 1 => baseShape1 v b
  | 2 => baseShape2 b
  | _ => baseShape3 b

/-- The map of the byte after CBh (R107). -/
def cbShape (b : Byte) : Shape :=
  match (b.extractLsb' 6 2).toNat, regOf (fieldZ b) with
  | 0, some r =>
    match rotOf (fieldY b) with
    | some o => .plain (Form.rotR o r)
    | none => .undef
  | 0, none =>
    match rotOf (fieldY b) with
    | some o => .plain (Form.rotAtHl o)
    | none => .undef
  | 1, some r => .plain (Form.bitR (fieldY b) r)
  | 1, none => .plain (.bitAtHl (fieldY b))
  | 2, some r => .plain (Form.resR (fieldY b) r)
  | 2, none => .plain (.resAtHl (fieldY b))
  | _, some r => .plain (Form.setR (fieldY b) r)
  | _, none => .plain (.setAtHl (fieldY b))

/-- The block instructions of R108, A0h to BBh. -/
def edBlockShape (b : Byte) : Shape :=
  match b.toNat with
  | 0xA0 => .plain .ldi
  | 0xA1 => .plain .cpi
  | 0xA2 => .plain .ini
  | 0xA3 => .plain .outi
  | 0xA8 => .plain .ldd
  | 0xA9 => .plain .cpd
  | 0xAA => .plain .ind
  | 0xAB => .plain .outd
  | 0xB0 => .plain .ldir
  | 0xB1 => .plain .cpir
  | 0xB2 => .plain .inir
  | 0xB3 => .plain .otir
  | 0xB8 => .plain .lddr
  | 0xB9 => .plain .cpdr
  | 0xBA => .plain .indr
  | 0xBB => .plain .otdr
  | _ => .undef

/-- The single encodings of R108 from 44h to 6Fh. -/
def edSingleShape (b : Byte) : Shape :=
  match b.toNat with
  | 0x44 => .plain .neg
  | 0x45 => .plain .retn
  | 0x46 => .plain .im0
  | 0x56 => .plain .im1
  | 0x5E => .plain .im2
  | 0x47 => .plain .ldIA
  | 0x57 => .plain .ldAI
  | 0x4D => .plain .reti
  | 0x67 => .plain .rrd
  | 0x6F => .plain .rld
  | _ => .undef

/-- The map of the byte after EDh (R108); ED 00h is defined on the TSK80A_D only (R112, R295). -/
def edShape (v : Variant) (b : Byte) : Shape :=
  match (b.extractLsb' 6 2).toNat with
  | 0 => if b = 0x00 ∧ v = .tsk80aD then .plain .trap else .undef
  | 1 =>
    match (fieldZ b).toNat with
    | 0 =>
      match regOf (fieldY b) with
      | some r => .plain (Form.inRPortC r)
      | none => .undef
    | 1 =>
      match regOf (fieldY b) with
      | some r => .plain (Form.outPortCR r)
      | none => .undef
    | 2 => if b.getLsbD 3 then .plain (.adcHlPp (pairOf (fieldP b))) else .plain (.sbcHlPp (pairOf (fieldP b)))
    | 3 => if b.getLsbD 3 then .imm16 (.ldPpAtNn (pairOf (fieldP b))) else .imm16 (fun nn => .ldAtNnPp nn (pairOf (fieldP b)))
    | _ => edSingleShape b
  | 2 => edBlockShape b
  | _ => .undef

/-- The encodings of R109 that are one value each. -/
def xySingleShape (x : Idx) (b : Byte) : Shape :=
  match b.toNat with
  | 0x21 => .imm16 (Form.ldXyNn x)
  | 0x22 => .imm16 (fun nn => Form.ldAtNnXy nn x)
  | 0x23 => .plain (Form.incXy x)
  | 0x2A => .imm16 (Form.ldXyAtNn x)
  | 0x2B => .plain (Form.decXy x)
  | 0x34 => .imm8 (Form.incAtXyd x)
  | 0x35 => .imm8 (Form.decAtXyd x)
  | 0x36 => .dispImm (Form.ldAtXydN x)
  | 0xE1 => .plain (Form.popXy x)
  | 0xE3 => .plain (Form.exAtSpXy x)
  | 0xE5 => .plain (Form.pushXy x)
  | 0xE9 => .plain (Form.jpXy x)
  | 0xF9 => .plain (Form.ldSpXy x)
  | _ => .undef

/-- The map of the byte after DDh or FDh (R109). -/
def xyShape (x : Idx) (b : Byte) : Shape :=
  match (b.extractLsb' 6 2).toNat with
  | 0 => if b.extractLsb' 0 4 = 9 then .plain (Form.addXyPp x (pairXOf (fieldP b))) else xySingleShape x b
  | 1 =>
    match regOf (fieldY b), regOf (fieldZ b) with
    | some r, none => .imm8 (Form.ldRAtXyd r x)
    | none, some r => .imm8 (fun d => Form.ldAtXydR x d r)
    | _, _ => .undef
  | 2 =>
    match regOf (fieldZ b) with
    | some _ => .undef
    | none => .imm8 (Form.aluAtXyd (aluOf (fieldY b)) x)
  | _ => xySingleShape x b

/-- The map of the fourth byte after DD CB d or FD CB d (R110). -/
def xycbShape (x : Idx) (d b : Byte) : Shape :=
  match (b.extractLsb' 6 2).toNat, regOf (fieldZ b) with
  | _, some _ => .undef
  | 0, none =>
    match rotOf (fieldY b) with
    | some o => .plain (Form.rotAtXyd o x d)
    | none => .undef
  | 1, none => .plain (Form.bitAtXyd (fieldY b) x d)
  | 2, none => .plain (Form.resAtXyd (fieldY b) x d)
  | _, none => .plain (Form.setAtXyd (fieldY b) x d)

/-- What the bytes of an instruction read so far ask for: another opcode byte, another operand byte
(R91, R92), the last byte of a DD CB or FD CB form (R95, D22), nothing, or they are the beginning of no
instruction. -/
inductive Need where
  | opcodeByte
  | operandByte
  | finalByte
  | complete (i : Instr)
  | undefined (e : DecodeError)

/-- `need` after the opcode bytes: the operand bytes read so far are given. -/
def Shape.need (sh : Shape) (e : DecodeError) (operands : List Byte) : Need :=
  match sh, operands with
  | .undef, _ => .undefined e
  | .plain i, _ => .complete i
  | .imm8 _, [] => .operandByte
  | .imm8 f, n :: _ => .complete (f n)
  | .imm16 _, [] => .operandByte
  | .imm16 _, [_] => .operandByte
  | .imm16 f, nl :: nh :: _ => .complete (f (join nh nl))
  | .dispImm _, [] => .operandByte
  | .dispImm _, [_] => .operandByte
  | .dispImm f, d :: n :: _ => .complete (f d n)

/-- The decode algorithm of R94 after the byte DDh or FDh. -/
def needXy (x : Idx) (bytes : List Byte) : Need :=
  match bytes with
  | [] => .opcodeByte
  | b1 :: rest =>
    if b1 = 0xCB then
      match rest with
      | [] => .operandByte
      | [_] => .finalByte
      | d :: b3 :: more => (xycbShape x d b3).need .undefinedIndexedCb more
    else (xyShape x b1).need .undefinedIndexed rest

/-- The decode algorithm of R94 on the bytes read so far. -/
def need (v : Variant) (bytes : List Byte) : Need :=
  match bytes with
  | [] => .opcodeByte
  | b0 :: rest =>
    if b0 = 0xCB then
      match rest with
      | [] => .opcodeByte
      | b1 :: more => (cbShape b1).need .undefinedCb more
    else if b0 = 0xED then
      match rest with
      | [] => .opcodeByte
      | b1 :: more => (edShape v b1).need .undefinedEd more
    else if b0 = 0xDD then needXy .ix rest
    else if b0 = 0xFD then needXy .iy rest
    else (baseShape v b0).need .truncated rest

/-- Reads bytes until an instruction is complete; `got` are the bytes read before. An instruction has
at most four bytes (R90), so five rounds always suffice. -/
def decodeLoop (v : Variant) : Nat → List Byte → List Byte → Except DecodeError (Instr × List Byte)
  | 0, _, _ => .error .truncated
  | k + 1, got, rest =>
    match need v got with
    | .complete i => .ok (i, rest)
    | .undefined e => .error e
    | _ =>
      match rest with
      | [] => .error .truncated
      | b :: more => decodeLoop v k (got ++ [b]) more

/-- The instruction at the front of `bytes`, and the bytes after it. -/
def decode (v : Variant) (bytes : List Byte) : Except DecodeError (Instr × List Byte) :=
  decodeLoop v 5 [] bytes

/-- The 2-bit code of R97. -/
def Pair.code : Pair → Byte
  | .bc => 0
  | .de => 1
  | .hl => 2
  | .sp => 3

/-- The 2-bit code of R98. -/
def PairQ.code : PairQ → Byte
  | .bc => 0
  | .de => 1
  | .hl => 2
  | .af => 3

/-- The 2-bit code of R97 in `ADD IX,pp` and `ADD IY,pp`. -/
def PairX.code : PairX → Byte
  | .bc => 0
  | .de => 1
  | .self => 2
  | .sp => 3

/-- The 3-bit code of R99. -/
def Cond.code : Cond → Byte
  | .nz => 0
  | .z => 1
  | .nc => 2
  | .c => 3
  | .po => 4
  | .pe => 5
  | .p => 6
  | .m => 7

/-- The 2-bit code of `JR cc,e` (R99). -/
def Cond4.code : Cond4 → Byte
  | .nz => 0
  | .z => 1
  | .nc => 2
  | .c => 3

/-- An opcode byte with a field value put in at bit `k`. -/
def withField (op code : Byte) (k : Nat) : Byte := op ||| (code <<< k)

/-- The bytes of an instruction, lowest address first (30_encoding.md R95, R100, R105), from the rows
of spec/opcode_table.json. -/
def encode (i : Instr) : List Byte :=
  match i with
  | .nop => [0x00]
  | .ldPpNn p nn => [withField 0x01 p.code 4, lo nn, hi nn]
  | .ldAtBcA => [0x02]
  | .ldAtDeA => [0x12]
  | .ldAtNnHl nn => [0x22, lo nn, hi nn]
  | .ldAtNnA nn => [0x32, lo nn, hi nn]
  | .incPp p => [withField 0x03 p.code 4]
  | .decPp p => [withField 0x0B p.code 4]
  | .addHlPp p => [withField 0x09 p.code 4]
  | .incB => [0x04]
  | .decB => [0x05]
  | .ldBN n => [0x06, n]
  | .incC => [0x0C]
  | .decC => [0x0D]
  | .ldCN n => [0x0E, n]
  | .incD => [0x14]
  | .decD => [0x15]
  | .ldDN n => [0x16, n]
  | .incE => [0x1C]
  | .decE => [0x1D]
  | .ldEN n => [0x1E, n]
  | .incH => [0x24]
  | .decH => [0x25]
  | .ldHN n => [0x26, n]
  | .incL => [0x2C]
  | .decL => [0x2D]
  | .ldLN n => [0x2E, n]
  | .incA => [0x3C]
  | .decA => [0x3D]
  | .ldAN n => [0x3E, n]
  | .incAtHl => [0x34]
  | .decAtHl => [0x35]
  | .ldAtHlN n => [0x36, n]
  | .rlca => [0x07]
  | .rrca => [0x0F]
  | .rla => [0x17]
  | .rra => [0x1F]
  | .daa => [0x27]
  | .cpl => [0x2F]
  | .scf => [0x37]
  | .ccf => [0x3F]
  | .exAfAf => [0x08]
  | .ldAAtBc => [0x0A]
  | .ldAAtDe => [0x1A]
  | .ldHlAtNn nn => [0x2A, lo nn, hi nn]
  | .ldAAtNn nn => [0x3A, lo nn, hi nn]
  | .djnzE e => [0x10, e]
  | .jrE e => [0x18, e]
  | .jrCcE cc e => [withField 0x20 cc.code 3, e]
  | .ldBB => [0x40]
  | .ldBC => [0x41]
  | .ldBD => [0x42]
  | .ldBE => [0x43]
  | .ldBH => [0x44]
  | .ldBL => [0x45]
  | .ldBA => [0x47]
  | .ldCB => [0x48]
  | .ldCC => [0x49]
  | .ldCD => [0x4A]
  | .ldCE => [0x4B]
  | .ldCH => [0x4C]
  | .ldCL => [0x4D]
  | .ldCA => [0x4F]
  | .ldDB => [0x50]
  | .ldDC => [0x51]
  | .ldDD => [0x52]
  | .ldDE => [0x53]
  | .ldDH => [0x54]
  | .ldDL => [0x55]
  | .ldDA => [0x57]
  | .ldEB => [0x58]
  | .ldEC => [0x59]
  | .ldED => [0x5A]
  | .ldEE => [0x5B]
  | .ldEH => [0x5C]
  | .ldEL => [0x5D]
  | .ldEA => [0x5F]
  | .ldHB => [0x60]
  | .ldHC => [0x61]
  | .ldHD => [0x62]
  | .ldHE => [0x63]
  | .ldHH => [0x64]
  | .breakpoint64 => [0x64]
  | .ldHL => [0x65]
  | .ldHA => [0x67]
  | .ldLB => [0x68]
  | .ldLC => [0x69]
  | .ldLD => [0x6A]
  | .ldLE => [0x6B]
  | .ldLH => [0x6C]
  | .ldLL => [0x6D]
  | .ldLA => [0x6F]
  | .ldAB => [0x78]
  | .ldAC => [0x79]
  | .ldAD => [0x7A]
  | .ldAE => [0x7B]
  | .ldAH => [0x7C]
  | .ldAL => [0x7D]
  | .ldAA => [0x7F]
  | .ldBAtHl => [0x46]
  | .ldAtHlB => [0x70]
  | .ldCAtHl => [0x4E]
  | .ldAtHlC => [0x71]
  | .ldDAtHl => [0x56]
  | .ldAtHlD => [0x72]
  | .ldEAtHl => [0x5E]
  | .ldAtHlE => [0x73]
  | .ldHAtHl => [0x66]
  | .ldAtHlH => [0x74]
  | .ldLAtHl => [0x6E]
  | .ldAtHlL => [0x75]
  | .ldAAtHl => [0x7E]
  | .ldAtHlA => [0x77]
  | .halt => [0x76]
  | .addAB => [0x80]
  | .addAC => [0x81]
  | .addAD => [0x82]
  | .addAE => [0x83]
  | .addAH => [0x84]
  | .addAL => [0x85]
  | .addAA => [0x87]
  | .addAAtHl => [0x86]
  | .addAN n => [0xC6, n]
  | .adcAB => [0x88]
  | .adcAC => [0x89]
  | .adcAD => [0x8A]
  | .adcAE => [0x8B]
  | .adcAH => [0x8C]
  | .adcAL => [0x8D]
  | .adcAA => [0x8F]
  | .adcAAtHl => [0x8E]
  | .adcAN n => [0xCE, n]
  | .subB => [0x90]
  | .subC => [0x91]
  | .subD => [0x92]
  | .subE => [0x93]
  | .subH => [0x94]
  | .subL => [0x95]
  | .subA => [0x97]
  | .subAtHl => [0x96]
  | .subN n => [0xD6, n]
  | .sbcAB => [0x98]
  | .sbcAC => [0x99]
  | .sbcAD => [0x9A]
  | .sbcAE => [0x9B]
  | .sbcAH => [0x9C]
  | .sbcAL => [0x9D]
  | .sbcAA => [0x9F]
  | .sbcAAtHl => [0x9E]
  | .sbcAN n => [0xDE, n]
  | .andB => [0xA0]
  | .andC => [0xA1]
  | .andD => [0xA2]
  | .andE => [0xA3]
  | .andH => [0xA4]
  | .andL => [0xA5]
  | .andA => [0xA7]
  | .andAtHl => [0xA6]
  | .andN n => [0xE6, n]
  | .xorB => [0xA8]
  | .xorC => [0xA9]
  | .xorD => [0xAA]
  | .xorE => [0xAB]
  | .xorH => [0xAC]
  | .xorL => [0xAD]
  | .xorA => [0xAF]
  | .xorAtHl => [0xAE]
  | .xorN n => [0xEE, n]
  | .orB => [0xB0]
  | .orC => [0xB1]
  | .orD => [0xB2]
  | .orE => [0xB3]
  | .orH => [0xB4]
  | .orL => [0xB5]
  | .orA => [0xB7]
  | .orAtHl => [0xB6]
  | .orN n => [0xF6, n]
  | .cpB => [0xB8]
  | .cpC => [0xB9]
  | .cpD => [0xBA]
  | .cpE => [0xBB]
  | .cpH => [0xBC]
  | .cpL => [0xBD]
  | .cpA => [0xBF]
  | .cpAtHl => [0xBE]
  | .cpN n => [0xFE, n]
  | .retCc cc => [withField 0xC0 cc.code 3]
  | .popQq q => [withField 0xC1 q.code 4]
  | .jpCcNn cc nn => [withField 0xC2 cc.code 3, lo nn, hi nn]
  | .jpNn nn => [0xC3, lo nn, hi nn]
  | .callCcNn cc nn => [withField 0xC4 cc.code 3, lo nn, hi nn]
  | .pushQq q => [withField 0xC5 q.code 4]
  | .rstP p => [0xC7 ||| p]
  | .ret => [0xC9]
  | .callNn nn => [0xCD, lo nn, hi nn]
  | .outPortNA n => [0xD3, n]
  | .inAPortN n => [0xDB, n]
  | .exx => [0xD9]
  | .exAtSpHl => [0xE3]
  | .jpHl => [0xE9]
  | .exDeHl => [0xEB]
  | .di => [0xF3]
  | .ldSpHl => [0xF9]
  | .ei => [0xFB]
  | .rlcB => [0xCB, 0x00]
  | .rlcC => [0xCB, 0x01]
  | .rlcD => [0xCB, 0x02]
  | .rlcE => [0xCB, 0x03]
  | .rlcH => [0xCB, 0x04]
  | .rlcL => [0xCB, 0x05]
  | .rlcA => [0xCB, 0x07]
  | .rlcAtHl => [0xCB, 0x06]
  | .rlcAtIxd d => [0xDD, 0xCB, d, 0x06]
  | .rlcAtIyd d => [0xFD, 0xCB, d, 0x06]
  | .rrcB => [0xCB, 0x08]
  | .rrcC => [0xCB, 0x09]
  | .rrcD => [0xCB, 0x0A]
  | .rrcE => [0xCB, 0x0B]
  | .rrcH => [0xCB, 0x0C]
  | .rrcL => [0xCB, 0x0D]
  | .rrcA => [0xCB, 0x0F]
  | .rrcAtHl => [0xCB, 0x0E]
  | .rrcAtIxd d => [0xDD, 0xCB, d, 0x0E]
  | .rrcAtIyd d => [0xFD, 0xCB, d, 0x0E]
  | .rlB => [0xCB, 0x10]
  | .rlC => [0xCB, 0x11]
  | .rlD => [0xCB, 0x12]
  | .rlE => [0xCB, 0x13]
  | .rlH => [0xCB, 0x14]
  | .rlL => [0xCB, 0x15]
  | .rlA => [0xCB, 0x17]
  | .rlAtHl => [0xCB, 0x16]
  | .rlAtIxd d => [0xDD, 0xCB, d, 0x16]
  | .rlAtIyd d => [0xFD, 0xCB, d, 0x16]
  | .rrB => [0xCB, 0x18]
  | .rrC => [0xCB, 0x19]
  | .rrD => [0xCB, 0x1A]
  | .rrE => [0xCB, 0x1B]
  | .rrH => [0xCB, 0x1C]
  | .rrL => [0xCB, 0x1D]
  | .rrA => [0xCB, 0x1F]
  | .rrAtHl => [0xCB, 0x1E]
  | .rrAtIxd d => [0xDD, 0xCB, d, 0x1E]
  | .rrAtIyd d => [0xFD, 0xCB, d, 0x1E]
  | .slaB => [0xCB, 0x20]
  | .slaC => [0xCB, 0x21]
  | .slaD => [0xCB, 0x22]
  | .slaE => [0xCB, 0x23]
  | .slaH => [0xCB, 0x24]
  | .slaL => [0xCB, 0x25]
  | .slaA => [0xCB, 0x27]
  | .slaAtHl => [0xCB, 0x26]
  | .slaAtIxd d => [0xDD, 0xCB, d, 0x26]
  | .slaAtIyd d => [0xFD, 0xCB, d, 0x26]
  | .sraB => [0xCB, 0x28]
  | .sraC => [0xCB, 0x29]
  | .sraD => [0xCB, 0x2A]
  | .sraE => [0xCB, 0x2B]
  | .sraH => [0xCB, 0x2C]
  | .sraL => [0xCB, 0x2D]
  | .sraA => [0xCB, 0x2F]
  | .sraAtHl => [0xCB, 0x2E]
  | .sraAtIxd d => [0xDD, 0xCB, d, 0x2E]
  | .sraAtIyd d => [0xFD, 0xCB, d, 0x2E]
  | .srlB => [0xCB, 0x38]
  | .srlC => [0xCB, 0x39]
  | .srlD => [0xCB, 0x3A]
  | .srlE => [0xCB, 0x3B]
  | .srlH => [0xCB, 0x3C]
  | .srlL => [0xCB, 0x3D]
  | .srlA => [0xCB, 0x3F]
  | .srlAtHl => [0xCB, 0x3E]
  | .srlAtIxd d => [0xDD, 0xCB, d, 0x3E]
  | .srlAtIyd d => [0xFD, 0xCB, d, 0x3E]
  | .bitB b => [0xCB, withField 0x40 (b.zeroExtend 8) 3]
  | .bitC b => [0xCB, withField 0x41 (b.zeroExtend 8) 3]
  | .bitD b => [0xCB, withField 0x42 (b.zeroExtend 8) 3]
  | .bitE b => [0xCB, withField 0x43 (b.zeroExtend 8) 3]
  | .bitH b => [0xCB, withField 0x44 (b.zeroExtend 8) 3]
  | .bitL b => [0xCB, withField 0x45 (b.zeroExtend 8) 3]
  | .bitA b => [0xCB, withField 0x47 (b.zeroExtend 8) 3]
  | .bitAtHl b => [0xCB, withField 0x46 (b.zeroExtend 8) 3]
  | .bitAtIxd b d => [0xDD, 0xCB, d, withField 0x46 (b.zeroExtend 8) 3]
  | .bitAtIyd b d => [0xFD, 0xCB, d, withField 0x46 (b.zeroExtend 8) 3]
  | .resB b => [0xCB, withField 0x80 (b.zeroExtend 8) 3]
  | .resC b => [0xCB, withField 0x81 (b.zeroExtend 8) 3]
  | .resD b => [0xCB, withField 0x82 (b.zeroExtend 8) 3]
  | .resE b => [0xCB, withField 0x83 (b.zeroExtend 8) 3]
  | .resH b => [0xCB, withField 0x84 (b.zeroExtend 8) 3]
  | .resL b => [0xCB, withField 0x85 (b.zeroExtend 8) 3]
  | .resA b => [0xCB, withField 0x87 (b.zeroExtend 8) 3]
  | .resAtHl b => [0xCB, withField 0x86 (b.zeroExtend 8) 3]
  | .resAtIxd b d => [0xDD, 0xCB, d, withField 0x86 (b.zeroExtend 8) 3]
  | .resAtIyd b d => [0xFD, 0xCB, d, withField 0x86 (b.zeroExtend 8) 3]
  | .setB b => [0xCB, withField 0xC0 (b.zeroExtend 8) 3]
  | .setC b => [0xCB, withField 0xC1 (b.zeroExtend 8) 3]
  | .setD b => [0xCB, withField 0xC2 (b.zeroExtend 8) 3]
  | .setE b => [0xCB, withField 0xC3 (b.zeroExtend 8) 3]
  | .setH b => [0xCB, withField 0xC4 (b.zeroExtend 8) 3]
  | .setL b => [0xCB, withField 0xC5 (b.zeroExtend 8) 3]
  | .setA b => [0xCB, withField 0xC7 (b.zeroExtend 8) 3]
  | .setAtHl b => [0xCB, withField 0xC6 (b.zeroExtend 8) 3]
  | .setAtIxd b d => [0xDD, 0xCB, d, withField 0xC6 (b.zeroExtend 8) 3]
  | .setAtIyd b d => [0xFD, 0xCB, d, withField 0xC6 (b.zeroExtend 8) 3]
  | .trap => [0xED, 0x00]
  | .inBPortC => [0xED, 0x40]
  | .outPortCB => [0xED, 0x41]
  | .inCPortC => [0xED, 0x48]
  | .outPortCC => [0xED, 0x49]
  | .inDPortC => [0xED, 0x50]
  | .outPortCD => [0xED, 0x51]
  | .inEPortC => [0xED, 0x58]
  | .outPortCE => [0xED, 0x59]
  | .inHPortC => [0xED, 0x60]
  | .outPortCH => [0xED, 0x61]
  | .inLPortC => [0xED, 0x68]
  | .outPortCL => [0xED, 0x69]
  | .inAPortC => [0xED, 0x78]
  | .outPortCA => [0xED, 0x79]
  | .sbcHlPp p => [0xED, withField 0x42 p.code 4]
  | .adcHlPp p => [0xED, withField 0x4A p.code 4]
  | .ldAtNnPp nn p => [0xED, withField 0x43 p.code 4, lo nn, hi nn]
  | .ldPpAtNn p nn => [0xED, withField 0x4B p.code 4, lo nn, hi nn]
  | .neg => [0xED, 0x44]
  | .retn => [0xED, 0x45]
  | .im0 => [0xED, 0x46]
  | .im1 => [0xED, 0x56]
  | .im2 => [0xED, 0x5E]
  | .ldIA => [0xED, 0x47]
  | .ldAI => [0xED, 0x57]
  | .reti => [0xED, 0x4D]
  | .rrd => [0xED, 0x67]
  | .rld => [0xED, 0x6F]
  | .ldi => [0xED, 0xA0]
  | .cpi => [0xED, 0xA1]
  | .ini => [0xED, 0xA2]
  | .outi => [0xED, 0xA3]
  | .ldd => [0xED, 0xA8]
  | .cpd => [0xED, 0xA9]
  | .ind => [0xED, 0xAA]
  | .outd => [0xED, 0xAB]
  | .ldir => [0xED, 0xB0]
  | .cpir => [0xED, 0xB1]
  | .inir => [0xED, 0xB2]
  | .otir => [0xED, 0xB3]
  | .lddr => [0xED, 0xB8]
  | .cpdr => [0xED, 0xB9]
  | .indr => [0xED, 0xBA]
  | .otdr => [0xED, 0xBB]
  | .addIxPp p => [0xDD, withField 0x09 p.code 4]
  | .ldIxNn nn => [0xDD, 0x21, lo nn, hi nn]
  | .ldAtNnIx nn => [0xDD, 0x22, lo nn, hi nn]
  | .incIx => [0xDD, 0x23]
  | .ldIxAtNn nn => [0xDD, 0x2A, lo nn, hi nn]
  | .decIx => [0xDD, 0x2B]
  | .incAtIxd d => [0xDD, 0x34, d]
  | .decAtIxd d => [0xDD, 0x35, d]
  | .ldAtIxdN d n => [0xDD, 0x36, d, n]
  | .ldBAtIxd d => [0xDD, 0x46, d]
  | .ldAtIxdB d => [0xDD, 0x70, d]
  | .ldCAtIxd d => [0xDD, 0x4E, d]
  | .ldAtIxdC d => [0xDD, 0x71, d]
  | .ldDAtIxd d => [0xDD, 0x56, d]
  | .ldAtIxdD d => [0xDD, 0x72, d]
  | .ldEAtIxd d => [0xDD, 0x5E, d]
  | .ldAtIxdE d => [0xDD, 0x73, d]
  | .ldHAtIxd d => [0xDD, 0x66, d]
  | .ldAtIxdH d => [0xDD, 0x74, d]
  | .ldLAtIxd d => [0xDD, 0x6E, d]
  | .ldAtIxdL d => [0xDD, 0x75, d]
  | .ldAAtIxd d => [0xDD, 0x7E, d]
  | .ldAtIxdA d => [0xDD, 0x77, d]
  | .addAAtIxd d => [0xDD, 0x86, d]
  | .adcAAtIxd d => [0xDD, 0x8E, d]
  | .subAtIxd d => [0xDD, 0x96, d]
  | .sbcAAtIxd d => [0xDD, 0x9E, d]
  | .andAtIxd d => [0xDD, 0xA6, d]
  | .xorAtIxd d => [0xDD, 0xAE, d]
  | .orAtIxd d => [0xDD, 0xB6, d]
  | .cpAtIxd d => [0xDD, 0xBE, d]
  | .popIx => [0xDD, 0xE1]
  | .exAtSpIx => [0xDD, 0xE3]
  | .pushIx => [0xDD, 0xE5]
  | .jpIx => [0xDD, 0xE9]
  | .ldSpIx => [0xDD, 0xF9]
  | .addIyPp p => [0xFD, withField 0x09 p.code 4]
  | .ldIyNn nn => [0xFD, 0x21, lo nn, hi nn]
  | .ldAtNnIy nn => [0xFD, 0x22, lo nn, hi nn]
  | .incIy => [0xFD, 0x23]
  | .ldIyAtNn nn => [0xFD, 0x2A, lo nn, hi nn]
  | .decIy => [0xFD, 0x2B]
  | .incAtIyd d => [0xFD, 0x34, d]
  | .decAtIyd d => [0xFD, 0x35, d]
  | .ldAtIydN d n => [0xFD, 0x36, d, n]
  | .ldBAtIyd d => [0xFD, 0x46, d]
  | .ldAtIydB d => [0xFD, 0x70, d]
  | .ldCAtIyd d => [0xFD, 0x4E, d]
  | .ldAtIydC d => [0xFD, 0x71, d]
  | .ldDAtIyd d => [0xFD, 0x56, d]
  | .ldAtIydD d => [0xFD, 0x72, d]
  | .ldEAtIyd d => [0xFD, 0x5E, d]
  | .ldAtIydE d => [0xFD, 0x73, d]
  | .ldHAtIyd d => [0xFD, 0x66, d]
  | .ldAtIydH d => [0xFD, 0x74, d]
  | .ldLAtIyd d => [0xFD, 0x6E, d]
  | .ldAtIydL d => [0xFD, 0x75, d]
  | .ldAAtIyd d => [0xFD, 0x7E, d]
  | .ldAtIydA d => [0xFD, 0x77, d]
  | .addAAtIyd d => [0xFD, 0x86, d]
  | .adcAAtIyd d => [0xFD, 0x8E, d]
  | .subAtIyd d => [0xFD, 0x96, d]
  | .sbcAAtIyd d => [0xFD, 0x9E, d]
  | .andAtIyd d => [0xFD, 0xA6, d]
  | .xorAtIyd d => [0xFD, 0xAE, d]
  | .orAtIyd d => [0xFD, 0xB6, d]
  | .cpAtIyd d => [0xFD, 0xBE, d]
  | .popIy => [0xFD, 0xE1]
  | .exAtSpIy => [0xFD, 0xE3]
  | .pushIy => [0xFD, 0xE5]
  | .jpIy => [0xFD, 0xE9]
  | .ldSpIy => [0xFD, 0xF9]

/-- The bytes of an instruction whose bits are `w`, as spec/opcode_table.json writes them: its hex
strings and its bit numbers put the first byte in the most significant place, so byte `j` of `nb`
bytes is `w div 256^(nb-1-j) mod 256` (log 33). -/
def bytesFirstHigh (w : Nat) : Nat → List Byte
  | 0 => []
  | k + 1 => BitVec.ofNat 8 (w / 256 ^ k) :: bytesFirstHigh w k

/-- The same bits with the first byte in the least significant place. -/
def bytesFirstLow (w : Nat) : Nat → List Byte
  | 0 => []
  | k + 1 => BitVec.ofNat 8 w :: bytesFirstLow (w / 256) k

/-- Whether the bytes, followed by zeros, are one instruction of exactly their number of bytes, or of
more bytes when the table gives operand bytes no bits. -/
def isWholeInstr (bytes : List Byte) : Bool :=
  match decode .tsk80aD (bytes ++ [0, 0, 0, 0]) with
  | .ok (_, rest) => rest.length ≤ 4
  | .error _ => false

/-- The bytes of a table word: read as the table numbers them, or, where only that gives one instruction,
with the first byte lowest (log 33). -/
def tableBytes (nbits w : Nat) : List Byte :=
  if isWholeInstr (bytesFirstLow w (nbits / 8)) && !isWholeInstr (bytesFirstHigh w (nbits / 8))
  then bytesFirstLow w (nbits / 8)
  else bytesFirstHigh w (nbits / 8)

/-- The instruction the decoder reads from the table word `w`, on the variant the machine resets to
(TSK80A_D, log 1), every bit above `nbits` being 0. -/
def decodeTableWord (nbits w : Nat) : Option Instr :=
  match decode .tsk80aD (tableBytes nbits w ++ [0, 0, 0, 0]) with
  | .ok (i, _) => some i
  | .error _ => none

end Sys2Proof
end

