-- ==== Sys2Proof/Machine/Fetch.lean ====
section
/-! DEFINITION. Reading the bytes of an instruction (30_encoding.md R91, R92, R94), and placing a table
word where the next fetch finds it. -/

namespace Sys2Proof.Machine

/-- Reads bytes at `pc` until the decoder has an instruction or knows there is none; `got` are the bytes
read before. The first byte and the byte after a prefix are opcode fetches (R91), all others operand reads
(R92), but for the last byte of a DD CB or FD CB form (`fetchFinal`; log 28). -/
def fetchLoop (v : Variant) : Nat → List Byte → State → State × Except DecodeError Instr
  | 0, _, s => (s, .error .truncated)
  | k + 1, got, s =>
    match need v got with
    | .complete i => (s, .ok i)
    | .undefined e => (s, .error e)
    | .opcodeByte => fetchLoop v k (got ++ [s.memIn s.pc]) s.fetchOpcode
    | .operandByte => fetchLoop v k (got ++ [s.memIn s.pc]) s.fetchOperand
    | .finalByte => fetchLoop v k (got ++ [s.memIn s.pc]) s.fetchFinal

/-- The fetch of one instruction: the state with `pc` after its bytes, and the instruction. -/
def State.fetchInstr (s : State) : State × Except DecodeError Instr :=
  fetchLoop s.platform.variant 5 [] s

/-- The fault of an undefined encoding (R112 to R115, D4; log 21). -/
def faultOf (e : DecodeError) : Fault :=
  match e with
  | .truncated => .decodeTruncated
  | .undefinedCb => .undefinedCb
  | .undefinedEd => .undefinedEd
  | .undefinedIndexed => .undefinedIndexed
  | .undefinedIndexedCb => .undefinedIndexedCb

/-- The memory with bytes stored from an address on, wrapping (D1). -/
def storeBytes : Memory → Word → List Byte → Memory
  | m, _, [] => m
  | m, a, b :: more => storeBytes (Memory.set m a.toNat b) (a + 1) more

/-- Whether a fetch of four bytes at `pc` reads memory content. -/
def State.fetchesMemory (s : State) : Bool :=
  holdsData (s.kindAt s.pc) && holdsData (s.kindAt (s.pc + 1)) &&
    holdsData (s.kindAt (s.pc + 2)) && holdsData (s.kindAt (s.pc + 3))

/-- The state whose next step fetches the four given bytes: they stand at `pc`, and no event comes
before the instruction (log 34). -/
def State.withCode (s : State) (bytes : List Byte) : State :=
  { s with
    mem := storeBytes s.mem s.pc bytes
    platform := { s.platform with memMap := if s.fetchesMemory then s.platform.memMap else [] }
    inputs := []
    nmiPending := false
    halted := false
    busGranted := false
    debugStopped := false }

end Sys2Proof.Machine
end

