-- ==== Sys2Proof/Machine/Events.lean ====
section
/-! DEFINITION. What happens at an instruction boundary (60_exceptions.md R444): the events in their
order, and the execution of one instruction. -/

namespace Sys2Proof.Machine

/-- `Mode0(v)` (R456, R457): a one-byte instruction is executed with `pc` held; the software breakpoint
stops the TSK80A_D with `pc` held; any other byte is a fault (D11, D17; log 22, 27). -/
def State.mode0 (s : State) (v : Byte) : Host.Outcome State Fault Refusal :=
  match need s.platform.variant [v] with
  | .complete .breakpoint64 => .next s.debugStop
  | .complete i => exec i s
  | .opcodeByte => .fault .mode0MultiByte
  | .operandByte => .fault .mode0MultiByte
  | .finalByte => .fault .mode0MultiByte
  | .undefined _ => .fault .mode0MultiByte

/-- `AcceptINT(env)` (R454); the device's byte is the one on `SFRDATAI` (R453). -/
def State.acceptInt (s : State) : Host.Outcome State Fault Refusal :=
  match s.im with
  | .im0 => s.beginInt.mode0 s.sfrIn
  | .im1 => .next (s.beginInt.enterAt 0x0038)
  | .im2 => .next (s.beginInt.mode2 s.sfrIn)

/-- The last part of R444: `ei_shadow` is cleared and one instruction is executed (R94). -/
def State.runInstr (s : State) : Host.Outcome State Fault Refusal :=
  match State.fetchInstr { s with eiShadow := false } with
  | (t, .ok i) => exec i t
  | (_, .error e) => .fault (faultOf e)

/-- The bytes another bus master writes, in their order, through the platform's map (R82; log 13). -/
def State.masterWrites (s : State) : List (Word × Byte) → State
  | [] => s
  | (a, v) :: more => State.masterWrites (s.poke a v) more

/-- What has happened on the buses up to this boundary: another master acts while `bus_granted` = 1, whether
or not the debug host holds the processor, and up to a reset (R82, R475; log 13). -/
def State.busMaster (s : State) (b : Boundary) : State :=
  if s.busGranted then s.masterWrites b.busWrites else s

/-- R444 from the test of `bus_granted` on. -/
def State.runBoundary (s : State) (b : Boundary) : Host.Outcome State Fault Refusal :=
  if s.busGranted then .next { s with busGranted := b.req }
  else if b.req then .next { s with busGranted := true }
  else if s.nmiPending then .next s.acceptNmi
  else if b.int && s.iff1 && !s.eiShadow then s.acceptInt
  else if s.halted then .next s
  else s.runInstr

/-- R444 for a processor that is not stopped. -/
def State.afterDebug (s : State) (b : Boundary) : Host.Outcome State Fault Refusal :=
  if s.platform.variant == .tsk80aD && b.debugStopRequest then .next s.debugStop
  else s.runBoundary b

/-- The registers as the host writes them (R482). -/
def State.setHostRegs (s : State) (r : HostRegs) : State :=
  { s with
    main := r.main
    alt := r.alt
    ix := r.ix
    iy := r.iy
    sp := r.sp
    pc := r.pc
    ireg := r.ireg
    iff1 := r.iff1
    iff2 := r.iff2
    im := r.im }

/-- The state after a single step: stopped again (R482). -/
def stopAgain (o : Host.Outcome State Fault Refusal) : Host.Outcome State Fault Refusal :=
  match o with
  | .next t => .next t.debugStop
  | .fault r => .fault r
  | .refused r => .refused r

/-- `DebugHostTurn(env)`: one command of the host (R482, D21; log 12). R470 (d) says that the halt state is left
by whatever the host does and names no action: here `leaveHalt` and `reset` end it, and every other command keeps
`halted` (DESIGN CHOICE, log 40). -/
def State.hostTurn (s : State) (b : Boundary) : Host.Outcome State Fault Refusal :=
  match b.host with
  | .idle => .next s
  | .setRegs r => .next (s.setHostRegs r)
  | .readMem a => .next (s.memRead a)
  | .writeMem a v => .next (s.memWrite a v)
  | .readPort p => .next (s.ioRead p)
  | .writePort p v => .next (s.ioWrite p v)
  | .singleStep => stopAgain (State.afterDebug { s with debugStopped := false } b)
  | .leaveHalt => .next { s with halted := false }
  | .resume => .next { s with debugStopped := false }
  | .reset => .next (s.doReset b.stopAfterReset)

/-- The inputs that are remembered: the level of `debugenable` (R295) and an edge of `NMI` (R445). -/
def State.latch (s : State) (b : Boundary) : State :=
  { s with
    debugEnable := b.debugEnable.getD s.debugEnable
    nmiPending := s.nmiPending || b.nmiEdge }

/-- The state the tests of R444 see: the inputs that are remembered, and memory as another master left it. -/
def State.takeInputs (s : State) (b : Boundary) : State := (s.latch b).busMaster b

/-- The step of R444 with the inputs of one boundary. -/
def State.stepAt (s : State) (b : Boundary) : Host.Outcome State Fault Refusal :=
  if b.rst then .next ((s.takeInputs b).doReset b.stopAfterReset)
  else if s.platform.variant == .tsk80aD && s.debugStopped then (s.takeInputs b).hostTurn b
  else (s.takeInputs b).afterDebug b

/-- The inputs of this boundary: the next of the list, or quiet ones (log 8). -/
def State.boundary (s : State) : Boundary := s.inputs.headD Boundary.quiet

/-- The state with this boundary's inputs used up. -/
def State.popInput (s : State) : State := { s with inputs := s.inputs.tail }

end Sys2Proof.Machine
end

