-- ==== Sys2Proof/Machine/Step.lean ====
section
/-! DEFINITION. One step of the machine (60_exceptions.md R444). -/

namespace Sys2Proof.Machine

/-- One step: the inputs of this instruction boundary are taken, then R444. -/
def step (s : State) : Host.Outcome State Fault Refusal := s.popInput.stepAt s.boundary

/-- The state whose next step runs the instruction of a table word (log 33, 34). -/
def State.withFetchWord (s : State) (nbits w : Nat) : State :=
  s.withCode ((tableBytes nbits w ++ [0, 0, 0, 0]).take 4)

end Sys2Proof.Machine
end

