-- ==== Sys2Proof/Safety.lean ====
section
/-! DEFINITION. The words in which claims about the machine are made: what is unchanged between two
states, what an access stores, how an instruction is encoded, and what a safe run is. -/

namespace Sys2Proof.Machine

/-- Every register and flip-flop a program, an interrupt or the debug host can change (10_state.md R51),
the hidden bits of R44 to R48 apart. -/
inductive RegName where
  | a | f | b | c | d | e | h | l
  | altA | altF | altB | altC | altD | altE | altH | altL
  | ix | iy | sp | pc | i | iff1 | iff2 | im
deriving DecidableEq, Repr

/-- The number that `IM` holds (R39). -/
def IntMode.number (m : IntMode) : Nat :=
  match m with
  | .im0 => 0
  | .im1 => 1
  | .im2 => 2

/-- The value of a register as a number. -/
def State.readReg (s : State) (n : RegName) : Nat :=
  match n with
  | .a => s.main.a.toNat
  | .f => s.main.f.toNat
  | .b => s.main.b.toNat
  | .c => s.main.c.toNat
  | .d => s.main.d.toNat
  | .e => s.main.e.toNat
  | .h => s.main.h.toNat
  | .l => s.main.l.toNat
  | .altA => s.alt.a.toNat
  | .altF => s.alt.f.toNat
  | .altB => s.alt.b.toNat
  | .altC => s.alt.c.toNat
  | .altD => s.alt.d.toNat
  | .altE => s.alt.e.toNat
  | .altH => s.alt.h.toNat
  | .altL => s.alt.l.toNat
  | .ix => s.ix.toNat
  | .iy => s.iy.toNat
  | .sp => s.sp.toNat
  | .pc => s.pc.toNat
  | .i => s.ireg.toNat
  | .iff1 => s.iff1.toNat
  | .iff2 => s.iff2.toNat
  | .im => s.im.number

/-- Every register but those listed holds in `t` what it held in `s`. -/
def SameRegsBut (changed : List RegName) (s t : State) : Prop :=
  ∀ n : RegName, n ∉ changed → t.readReg n = s.readReg n

/-- The hidden bits of R44 to R48, the platform and the boundary inputs are unchanged. -/
def SameControl (s t : State) : Prop :=
  t.eiShadow = s.eiShadow ∧ t.nmiPending = s.nmiPending ∧ t.halted = s.halted ∧
    t.busGranted = s.busGranted ∧ t.debugStopped = s.debugStopped ∧ t.platform = s.platform ∧
    t.debugEnable = s.debugEnable ∧ t.inputs = s.inputs

/-- Every byte of memory is unchanged. -/
def SameMem (s t : State) : Prop := ∀ a : Word, t.peek a = s.peek a

/-- The accesses made from `s` to `t`, in their order (R67). -/
def Accesses (s t : State) (events : List BusEvent) : Prop := t.bus = events.reverse ++ s.bus

/-- One byte was stored at `a`: RAM takes it, any other address keeps what it held (R76), and no other
byte changed. -/
def Stores (s t : State) (a : Word) (v : Byte) : Prop :=
  (∀ x : Word, x ≠ a → t.peek x = s.peek x) ∧
    (s.kindAt a = .ram → t.peek a = v) ∧ (s.kindAt a ≠ .ram → t.peek a = s.peek a)

/-- Two bytes were stored, `w` low byte first: at `a` and at the address after it (R60). -/
def StoresWord (s t : State) (a w : Word) : Prop :=
  (∀ x : Word, x ≠ a → x ≠ a + 1 → t.peek x = s.peek x) ∧
    (s.kindAt a = .ram → t.peek a = lo w) ∧ (s.kindAt a ≠ .ram → t.peek a = s.peek a) ∧
    (s.kindAt (a + 1) = .ram → t.peek (a + 1) = hi w) ∧
    (s.kindAt (a + 1) ≠ .ram → t.peek (a + 1) = s.peek (a + 1))

/-- Nothing but the listed registers changed and no access was made. -/
def OnlyRegs (changed : List RegName) (s t : State) : Prop :=
  SameRegsBut changed s t ∧ SameControl s t ∧ SameMem s t ∧ Accesses s t []

/-- Nothing but the listed registers changed; exactly these accesses were made, none of them a write. -/
def OnlyReads (changed : List RegName) (events : List BusEvent) (s t : State) : Prop :=
  SameRegsBut changed s t ∧ SameControl s t ∧ SameMem s t ∧ Accesses s t events

/-- Nothing but the listed registers and one byte of memory changed; exactly these accesses were made. -/
def OnlyStores (changed : List RegName) (a : Word) (v : Byte) (events : List BusEvent)
    (s t : State) : Prop :=
  SameRegsBut changed s t ∧ SameControl s t ∧ Stores s t a v ∧ Accesses s t events

/-- Nothing but the listed registers and the two bytes of a word in memory changed; exactly these
accesses were made. -/
def OnlyStoresWord (changed : List RegName) (a w : Word) (events : List BusEvent)
    (s t : State) : Prop :=
  SameRegsBut changed s t ∧ SameControl s t ∧ StoresWord s t a w ∧ Accesses s t events

/-- `bytes` are the encoding of `i`: the encoder gives them and the decoder of that family member reads
`i` back from them, whatever bytes follow. -/
def EncodedAs (v : Variant) (i : Instr) (bytes : List Byte) : Prop :=
  encode i = bytes ∧ ∀ rest : List Byte, decode v (bytes ++ rest) = .ok (i, rest)

/-- The 3-bit code of a register as a byte (30_encoding.md R96). -/
def regCode (r : Reg8) : Byte :=
  match r with
  | .b => 0
  | .c => 1
  | .d => 2
  | .e => 3
  | .h => 4
  | .l => 5
  | .a => 7

/-- Bits 5 to 3 of the opcodes of the 8-bit arithmetic and logic group (30_encoding.md R106). -/
def aluCode (op : Alu) : Byte :=
  match op with
  | .add => 0
  | .adc => 1
  | .sub => 2
  | .sbc => 3
  | .and => 4
  | .xor => 5
  | .or => 6
  | .cp => 7

/-- Bits 5 to 3 of the second byte of the CB rotates and shifts (30_encoding.md R107). -/
def rotCode (op : Rot) : Byte :=
  match op with
  | .rlc => 0
  | .rrc => 1
  | .rl => 2
  | .rr => 3
  | .sla => 4
  | .sra => 5
  | .srl => 7

/-- The prefix byte of an index register (30_encoding.md R93). -/
def prefixByte (x : Idx) : Byte :=
  match x with
  | .ix => 0xDD
  | .iy => 0xFD

/-- The name of a working register. -/
def nameOf (r : Reg8) : RegName :=
  match r with
  | .b => .b
  | .c => .c
  | .d => .d
  | .e => .e
  | .h => .h
  | .l => .l
  | .a => .a

/-- The registers that a pair consists of. -/
def pairNames (p : Pair) : List RegName :=
  match p with
  | .bc => [.b, .c]
  | .de => [.d, .e]
  | .hl => [.h, .l]
  | .sp => [.sp]

/-- The registers that a pair of `PUSH` and `POP` consists of. -/
def pairQNames (q : PairQ) : List RegName :=
  match q with
  | .bc => [.b, .c]
  | .de => [.d, .e]
  | .hl => [.h, .l]
  | .af => [.a, .f]

/-- The name of an index register. -/
def idxName (x : Idx) : RegName :=
  match x with
  | .ix => .ix
  | .iy => .iy

/-- The forms of a byte variable `s` (40_arith8.md R134). -/
inductive Source where
  | reg (r : Reg8)
  | imm (n : Byte)
  | atHl
  | atXyd (x : Idx) (d : Byte)
deriving DecidableEq, Repr

/-- The value of a byte variable: for the memory forms, the byte the one read answers (R134). -/
def Source.value (src : Source) (s : State) : Byte :=
  match src with
  | .reg r => s.reg r
  | .imm n => n
  | .atHl => s.memIn s.hl
  | .atXyd x d => s.memIn (s.ea x d)

/-- The data accesses of a byte variable (R134). -/
def Source.accesses (src : Source) (s : State) : List BusEvent :=
  match src with
  | .reg _ => []
  | .imm _ => []
  | .atHl => [.memRead s.hl (s.memIn s.hl)]
  | .atXyd x d => [.memRead (s.ea x d) (s.memIn (s.ea x d))]

/-- The instruction of the 8-bit arithmetic and logic group with this byte variable. -/
def aluInstr (op : Alu) (src : Source) : Instr :=
  match src with
  | .reg r => Form.aluR op r
  | .imm n => Form.aluN op n
  | .atHl => Form.aluAtHl op
  | .atXyd x d => Form.aluAtXyd op x d

/-- A memory operand: `(HL)` or `(XY+d)`. -/
inductive Place where
  | atHl
  | atXyd (x : Idx) (d : Byte)
deriving DecidableEq, Repr

/-- The address of a memory operand (20_memory.md R75). -/
def Place.addr (m : Place) (s : State) : Word :=
  match m with
  | .atHl => s.hl
  | .atXyd x d => s.ea x d

/-- `INC m` on memory. -/
def incInstr (m : Place) : Instr :=
  match m with
  | .atHl => .incAtHl
  | .atXyd x d => Form.incAtXyd x d

/-- `DEC m` on memory. -/
def decInstr (m : Place) : Instr :=
  match m with
  | .atHl => .decAtHl
  | .atXyd x d => Form.decAtXyd x d

/-- A CB rotate or shift on memory. -/
def rotInstr (op : Rot) (m : Place) : Instr :=
  match m with
  | .atHl => Form.rotAtHl op
  | .atXyd x d => Form.rotAtXyd op x d

/-- `SET b,m` on memory. -/
def setInstr (b : BitVec 3) (m : Place) : Instr :=
  match m with
  | .atHl => .setAtHl b
  | .atXyd x d => Form.setAtXyd b x d

/-- `RES b,m` on memory. -/
def resInstr (b : BitVec 3) (m : Place) : Instr :=
  match m with
  | .atHl => .resAtHl b
  | .atXyd x d => Form.resAtXyd b x d

/-- The number of 1 bits is even (10_state.md R35). -/
def evenOnes (v : Byte) : Bool := ((List.range 8).countP fun k => v.getLsbD k) % 2 == 0

/-- What a condition says of the flags (30_encoding.md R99). -/
def condTrue (cc : Cond) (s : State) : Prop :=
  match cc with
  | .nz => s.flags.z = false
  | .z => s.flags.z = true
  | .nc => s.flags.c = false
  | .c => s.flags.c = true
  | .po => s.flags.pv = false
  | .pe => s.flags.pv = true
  | .p => s.flags.s = false
  | .m => s.flags.s = true

/-- The condition of `JR cc,e` as one of the eight (R99). -/
def wideCond (cc : Cond4) : Cond :=
  match cc with
  | .nz => .nz
  | .z => .z
  | .nc => .nc
  | .c => .c

/-- The encoding of an instruction of the 8-bit arithmetic and logic group (R106, R109). -/
def aluBytes (op : Alu) (src : Source) : List Byte :=
  match src with
  | .reg r => [0x80 ||| aluCode op <<< 3 ||| regCode r]
  | .imm n => [0xC6 ||| aluCode op <<< 3, n]
  | .atHl => [0x86 ||| aluCode op <<< 3]
  | .atXyd x d => [prefixByte x, 0x86 ||| aluCode op <<< 3, d]

/-- Bit `k` of the result of a rotate or shift of `v` with incoming carry `cy`
(47_rotate_shift_bit.md, sections 1 to 3). -/
def rotatedBit (op : Rot) (v : Byte) (cy : Bool) (k : Nat) : Bool :=
  match op with
  | .rlc => v.getLsbD ((k + 7) % 8)
  | .rl => if k = 0 then cy else v.getLsbD (k - 1)
  | .rrc => v.getLsbD ((k + 1) % 8)
  | .rr => if k = 7 then cy else v.getLsbD (k + 1)
  | .sla => if k = 0 then false else v.getLsbD (k - 1)
  | .sra => if k = 7 then v.getLsbD 7 else v.getLsbD (k + 1)
  | .srl => if k = 7 then false else v.getLsbD (k + 1)

/-- The bit that a rotate or shift moves into C: bit 7 to the left, bit 0 to the right. -/
def rotatedOut (op : Rot) (v : Byte) : Bool :=
  match op with
  | .rlc => v.getLsbD 7
  | .rl => v.getLsbD 7
  | .sla => v.getLsbD 7
  | .rrc => v.getLsbD 0
  | .rr => v.getLsbD 0
  | .sra => v.getLsbD 0
  | .srl => v.getLsbD 0

/-- One row of the table of `DAA` (45_general_control.md R281): N, C and H before, the ranges of the low
and of the high digit, the corrective adjustment, and C after. -/
structure DaaRow where
  n : Bool
  c : Bool
  h : Bool
  lowFrom : Nat
  lowTo : Nat
  highFrom : Nat
  highTo : Nat
  adjust : Byte
  cAfter : Bool
deriving DecidableEq, Repr

/-- The 22 rows of R281, as printed. -/
def daaTable : List DaaRow :=
  [ ⟨false, false, false, 0, 9, 0, 9, 0x00, false⟩,
    ⟨false, false, false, 0, 9, 10, 15, 0x60, true⟩,
    ⟨false, false, false, 10, 15, 0, 8, 0x06, false⟩,
    ⟨false, false, false, 10, 15, 9, 15, 0x66, true⟩,
    ⟨false, false, true, 0, 9, 0, 9, 0x06, false⟩,
    ⟨false, false, true, 0, 9, 10, 15, 0x66, true⟩,
    ⟨false, false, true, 10, 15, 0, 9, 0x06, false⟩,
    ⟨false, false, true, 10, 15, 10, 15, 0x66, true⟩,
    ⟨false, true, false, 0, 9, 0, 15, 0x60, true⟩,
    ⟨false, true, false, 10, 15, 0, 15, 0x66, true⟩,
    ⟨false, true, true, 0, 15, 0, 15, 0x66, true⟩,
    ⟨true, false, false, 10, 15, 9, 15, 0x66, true⟩,
    ⟨true, false, false, 10, 15, 0, 8, 0x06, false⟩,
    ⟨true, false, false, 0, 9, 10, 15, 0x60, true⟩,
    ⟨true, false, false, 0, 9, 0, 9, 0x00, false⟩,
    ⟨true, false, true, 0, 9, 10, 15, 0x66, true⟩,
    ⟨true, false, true, 0, 9, 0, 9, 0x06, false⟩,
    ⟨true, false, true, 10, 15, 9, 15, 0x66, true⟩,
    ⟨true, false, true, 10, 15, 0, 8, 0x06, false⟩,
    ⟨true, true, false, 10, 15, 0, 15, 0x66, true⟩,
    ⟨true, true, false, 0, 9, 0, 15, 0x60, true⟩,
    ⟨true, true, true, 0, 15, 0, 15, 0x66, true⟩ ]

/-- Whether a row is the one for these flags and this Accumulator. -/
def DaaRow.applies (row : DaaRow) (n c h : Bool) (a : Byte) : Bool :=
  row.n == n && row.c == c && row.h == h &&
    decide (row.lowFrom ≤ a.toNat % 16) && decide (a.toNat % 16 ≤ row.lowTo) &&
    decide (row.highFrom ≤ a.toNat / 16) && decide (a.toNat / 16 ≤ row.highTo)

/-- The instructions that write `pc` beyond the fetch (10_state.md R29), with `TRAP` and the software
breakpoint, which hold it on themselves (R295, R296). -/
def writesPc (i : Instr) : Bool :=
  match i with
  | .jpNn _ => true
  | .jpCcNn _ _ => true
  | .jpHl => true
  | .jpIx => true
  | .jpIy => true
  | .jrE _ => true
  | .jrCcE _ _ => true
  | .djnzE _ => true
  | .callNn _ => true
  | .callCcNn _ _ => true
  | .ret => true
  | .retCc _ => true
  | .reti => true
  | .retn => true
  | .rstP _ => true
  | .ldir => true
  | .lddr => true
  | .cpir => true
  | .cpdr => true
  | .inir => true
  | .indr => true
  | .otir => true
  | .otdr => true
  | .trap => true
  | .breakpoint64 => true
  | _ => false

/-- The next boundary brings no reset, the bus is not granted or asked for, and no debug unit holds or
stops the processor: what comes before the interrupts in 60_exceptions.md R444. -/
def State.reachesInterrupts (s : State) : Prop :=
  s.boundary.rst = false ∧ s.boundary.req = false ∧ s.busGranted = false ∧
    (s.platform.variant = .tsk80aD → s.debugStopped = false ∧ s.boundary.debugStopRequest = false)

/-- The next boundary accepts a maskable interrupt (60_exceptions.md R452). -/
def State.acceptsInt (s : State) : Prop :=
  s.reachesInterrupts ∧ s.nmiPending = false ∧ s.boundary.nmiEdge = false ∧
    s.boundary.int = true ∧ s.iff1 = true ∧ s.eiShadow = false

/-- The next boundary brings an ordinary instruction: no event before it in R444 happens and no interrupt
is accepted, and the processor is not halted. -/
def State.undisturbed (s : State) : Prop :=
  s.reachesInterrupts ∧ s.nmiPending = false ∧ s.boundary.nmiEdge = false ∧ s.halted = false ∧
    (s.boundary.int = false ∨ s.iff1 = false ∨ s.eiShadow = true)

/-- What another bus master has done to memory between `s` and `u` (20_memory.md R82): nothing unless the bus
is granted; else the last byte it wrote to an address of RAM stands there, and every other byte is as it was. -/
def MasterWrote (s u : State) : Prop :=
  (s.busGranted = false → u.mem = s.mem) ∧
    (s.busGranted = true →
      (∀ a : Word, (∀ w ∈ s.boundary.busWrites, w.1 ≠ a) → u.peek a = s.peek a) ∧
      ∀ (earlier later : List (Word × Byte)) (a : Word) (v : Byte),
        s.boundary.busWrites = earlier ++ (a, v) :: later → (∀ w ∈ later, w.1 ≠ a) →
        (s.kindAt a = .ram → u.peek a = v) ∧ (s.kindAt a ≠ .ram → u.peek a = s.peek a))

/-- `u` is `s` after the inputs of the next boundary were taken, and nothing else: the level of `debugenable`
(R295), an edge of `NMI` (R445), the record itself, and what another bus master wrote (R82). -/
def InputsTaken (s u : State) : Prop :=
  u = { s with
    mem := u.mem
    debugEnable := s.boundary.debugEnable.getD s.debugEnable
    nmiPending := s.nmiPending || s.boundary.nmiEdge
    inputs := s.inputs.tail } ∧ MasterWrote s u

/-- `s` after the common part of accepting a maskable interrupt (60_exceptions.md R453 to R455), and nothing
else: the acknowledge cycle has taken a byte from `SFRDATAI`. -/
def State.acknowledged (s : State) : State :=
  { s with
    iff1 := false
    iff2 := s.iff2 && !s.platform.intAckClearsIFF2
    halted := false
    eiShadow := false
    debugEnable := s.boundary.debugEnable.getD s.debugEnable
    inputs := s.inputs.tail
    sfrDataIn := s.sfrDataIn.tail
    draws := if s.sfrDataIn = [] then s.draws + 1 else s.draws
    bus := .intAck s.pc s.sfrIn :: s.bus }

/-- `t` is `u` after `Reset()` (70_reset_and_hazards.md R490); `debug_stopped` is not part of it. -/
def WasReset (u t : State) : Prop :=
  (∀ n : RegName, t.readReg n = 0) ∧ t.eiShadow = false ∧ t.nmiPending = false ∧ t.halted = false ∧
    t.busGranted = false ∧ SameMem u t ∧ t.platform = u.platform ∧ t.debugEnable = u.debugEnable ∧
    t.inputs = u.inputs ∧ Accesses u t []

/-- An access reads a byte of an instruction: an opcode fetch or an operand read (30_encoding.md R91,
R92). -/
def readsCode (e : BusEvent) (a : Word) (v : Byte) : Prop := e = .fetch a v ∨ e = .memRead a v

/-- An instruction ran to its end. -/
def Completes (o : Host.Outcome State Fault Refusal) : Prop := ∃ t : State, o = .next t

/-- The condition 70_reset_and_hazards.md R497 names the end of a run. -/
def State.ended (s : State) : Prop := s.halted = true ∧ s.iff1 = false

/-- A safe run: `k` steps from `s` meet no fault and no refusal. -/
def SafeFor (k : Nat) (s : State) : Prop := ∃ t : State, Host.Core.run Sys2Proof.core k s = .next t

/-- The invariant of the machine: memory is in its canonical form, and a processor without a debug unit
is not stopped by one (R42, R48). -/
def State.Inv (s : State) : Prop :=
  Memory.wf s.mem = true ∧ (s.platform.variant = .tsk80a → s.debugStopped = false)

end Sys2Proof.Machine
end

