-- ==== Sys2Proof/WellFormed.lean ====
section
/-! DEFINITION. Which terms of `Instr` are instructions of a family member. -/

namespace Sys2Proof

/-- A restart address is 8 times a 3-bit number (30_encoding.md R104). -/
def isRestart (p : Byte) : Bool := p &&& 0xC7 == 0

/-- The checks a term of `Instr` must pass: the restart address of `RST` (R104); `TRAP` and the
software breakpoint exist on the TSK80A_D only, `LD H,H` on the TSK80A only (00_scope.md R2,
45_general_control.md R295, R296). Every other operand ranges over all values of its type. -/
def wellFormed (v : Variant) (i : Instr) : Bool :=
  match i with
  | .rstP p => isRestart p
  | .trap => v == .tsk80aD
  | .breakpoint64 => v == .tsk80aD
  | .ldHH => v == .tsk80a
  | _ => true

end Sys2Proof
end

