-- ==== Sys2Proof/Certificates/Slice0/Obligations.lean ====
section
/-! DEFINITION. The statements for the provers. `exec` acts on a state whose `pc` is already past the
instruction; how `pc` gets there is `StepRunsDecodedInstruction`. `memIn a` is what a read cycle at `a`
answers (20_memory.md R76); `MemoryReadAfterWrite` says what that is in RAM and ROM. -/

section

open Sys2Proof Sys2Proof.Machine

/-! ### 8-bit loads -/

/-- `LD r1,r2` and `LD r,n` (43_load8.md, section 1): encoding, copy, and nothing else. On the TSK80A_D 64h is
no load, and on both 76h is `HALT`. That the term for `LD H,H` copies `H` on a TSK80A_D too, where no bytes
decode to it, is the model's choice (log 35). -/
def Obligations.LoadRegister : Prop :=
  (∀ (r1 r2 : Reg8) (s : State),
    (s.platform.variant = .tsk80aD → ¬(r1 = .h ∧ r2 = .h)) →
      EncodedAs s.platform.variant (Form.ldRR r1 r2) [0x40 ||| regCode r1 <<< 3 ||| regCode r2]) ∧
  (∀ rest : List Byte, decode .tsk80aD (0x64 :: rest) = .ok (.breakpoint64, rest)) ∧
  (∀ (v : Variant) (rest : List Byte), decode v (0x76 :: rest) = .ok (.halt, rest)) ∧
  (∀ (r1 r2 : Reg8) (s : State), ∃ t : State, exec (Form.ldRR r1 r2) s = .next t ∧
    t.reg r1 = s.reg r2 ∧ OnlyRegs [nameOf r1] s t) ∧
  (∀ (v : Variant) (r : Reg8) (n : Byte), EncodedAs v (Form.ldRN r n) [0x06 ||| regCode r <<< 3, n]) ∧
  ∀ (r : Reg8) (n : Byte) (s : State), ∃ t : State, exec (Form.ldRN r n) s = .next t ∧
    t.reg r = n ∧ OnlyRegs [nameOf r] s t

/-- `LD r,(HL)`, `LD A,(BC)`, `LD A,(DE)`, `LD A,(nn)` (R222, R229, R230, R231): the register takes the
byte that the one read answers; the address is formed from the old registers. -/
def Obligations.LoadRegisterFromMemory : Prop :=
  (∀ (v : Variant) (r : Reg8), EncodedAs v (Form.ldRAtHl r) [0x46 ||| regCode r <<< 3]) ∧
  (∀ v : Variant, EncodedAs v .ldAAtBc [0x0A] ∧ EncodedAs v .ldAAtDe [0x1A]) ∧
  (∀ (v : Variant) (nn : Word), EncodedAs v (.ldAAtNn nn) [0x3A, lo nn, hi nn]) ∧
  (∀ (r : Reg8) (s : State), ∃ t : State, exec (Form.ldRAtHl r) s = .next t ∧
    t.reg r = s.memIn s.hl ∧ OnlyReads [nameOf r] [.memRead s.hl (s.memIn s.hl)] s t) ∧
  (∀ s : State, ∃ t : State, exec .ldAAtBc s = .next t ∧
    t.main.a = s.memIn s.bc ∧ OnlyReads [.a] [.memRead s.bc (s.memIn s.bc)] s t) ∧
  (∀ s : State, ∃ t : State, exec .ldAAtDe s = .next t ∧
    t.main.a = s.memIn s.de ∧ OnlyReads [.a] [.memRead s.de (s.memIn s.de)] s t) ∧
  ∀ (nn : Word) (s : State), ∃ t : State, exec (.ldAAtNn nn) s = .next t ∧
    t.main.a = s.memIn nn ∧ OnlyReads [.a] [.memRead nn (s.memIn nn)] s t

/-- `LD (HL),r`, `LD (HL),n`, `LD (BC),A`, `LD (DE),A`, `LD (nn),A` (R224, R226, R232, R233, R234): one
write, no register and no flag changes. -/
def Obligations.StoreToMemory : Prop :=
  (∀ (v : Variant) (r : Reg8), EncodedAs v (Form.ldAtHlR r) [0x70 ||| regCode r]) ∧
  (∀ (v : Variant) (n : Byte), EncodedAs v (.ldAtHlN n) [0x36, n]) ∧
  (∀ v : Variant, EncodedAs v .ldAtBcA [0x02] ∧ EncodedAs v .ldAtDeA [0x12]) ∧
  (∀ (v : Variant) (nn : Word), EncodedAs v (.ldAtNnA nn) [0x32, lo nn, hi nn]) ∧
  (∀ (r : Reg8) (s : State), ∃ t : State, exec (Form.ldAtHlR r) s = .next t ∧
    OnlyStores [] s.hl (s.reg r) [.memWrite s.hl (s.reg r)] s t) ∧
  (∀ (n : Byte) (s : State), ∃ t : State, exec (.ldAtHlN n) s = .next t ∧
    OnlyStores [] s.hl n [.memWrite s.hl n] s t) ∧
  (∀ s : State, ∃ t : State, exec .ldAtBcA s = .next t ∧
    OnlyStores [] s.bc s.main.a [.memWrite s.bc s.main.a] s t) ∧
  (∀ s : State, ∃ t : State, exec .ldAtDeA s = .next t ∧
    OnlyStores [] s.de s.main.a [.memWrite s.de s.main.a] s t) ∧
  ∀ (nn : Word) (s : State), ∃ t : State, exec (.ldAtNnA nn) s = .next t ∧
    OnlyStores [] nn s.main.a [.memWrite nn s.main.a] s t

/-- `LD r,(XY+d)`, `LD (XY+d),r`, `LD (XY+d),n` (43_load8.md, the indexed forms). That the address wraps
modulo 65536 is the spec's decision D1 (log 16). -/
def Obligations.LoadStoreIndexed : Prop :=
  (∀ (v : Variant) (r : Reg8) (x : Idx) (d : Byte),
    EncodedAs v (Form.ldRAtXyd r x d) [prefixByte x, 0x46 ||| regCode r <<< 3, d] ∧
      EncodedAs v (Form.ldAtXydR x d r) [prefixByte x, 0x70 ||| regCode r, d]) ∧
  (∀ (v : Variant) (x : Idx) (d n : Byte), EncodedAs v (Form.ldAtXydN x d n) [prefixByte x, 0x36, d, n]) ∧
  ∀ (x : Idx) (d : Byte) (s : State) (a : Word), a = BitVec.ofInt 16 ((s.idx x).toNat + d.toInt) →
    (∀ r : Reg8, ∃ t : State, exec (Form.ldRAtXyd r x d) s = .next t ∧
      t.reg r = s.memIn a ∧ OnlyReads [nameOf r] [.memRead a (s.memIn a)] s t) ∧
    (∀ r : Reg8, ∃ t : State, exec (Form.ldAtXydR x d r) s = .next t ∧
      OnlyStores [] a (s.reg r) [.memWrite a (s.reg r)] s t) ∧
    ∀ n : Byte, ∃ t : State, exec (Form.ldAtXydN x d n) s = .next t ∧
      OnlyStores [] a n [.memWrite a n] s t

/-- `LD A,I` and `LD I,A` (R235, R236). -/
def Obligations.InterruptRegisterLoads : Prop :=
  (∀ v : Variant, EncodedAs v .ldAI [0xED, 0x57] ∧ EncodedAs v .ldIA [0xED, 0x47]) ∧
  (∀ s : State, ∃ t : State, exec .ldAI s = .next t ∧ t.main.a = s.ireg ∧
    t.flags = { s := s.ireg.getLsbD 7, z := decide (s.ireg.toNat = 0), h := false, pv := s.iff2, n := false, c := s.flags.c } ∧
    OnlyRegs [.a, .f] s t) ∧
  ∀ s : State, ∃ t : State, exec .ldIA s = .next t ∧ t.ireg = s.main.a ∧ OnlyRegs [.i] s t

/-! ### 16-bit loads and the stack -/

/-- `LD pp,nn`, `LD IX,nn`, `LD IY,nn`, `LD SP,HL`, `LD SP,IX`, `LD SP,IY` (44_load16.md R250 to R252,
R262 to R264). -/
def Obligations.LoadPairs : Prop :=
  (∀ (v : Variant) (p : Pair) (nn : Word), EncodedAs v (.ldPpNn p nn) [0x01 ||| p.code <<< 4, lo nn, hi nn]) ∧
  (∀ (v : Variant) (x : Idx) (nn : Word), EncodedAs v (Form.ldXyNn x nn) [prefixByte x, 0x21, lo nn, hi nn]) ∧
  (∀ v : Variant, EncodedAs v .ldSpHl [0xF9]) ∧
  (∀ (v : Variant) (x : Idx), EncodedAs v (Form.ldSpXy x) [prefixByte x, 0xF9]) ∧
  (∀ (p : Pair) (nn : Word) (s : State), ∃ t : State, exec (.ldPpNn p nn) s = .next t ∧
    t.pair p = nn ∧ OnlyRegs (pairNames p) s t) ∧
  (∀ (x : Idx) (nn : Word) (s : State), ∃ t : State, exec (Form.ldXyNn x nn) s = .next t ∧
    t.idx x = nn ∧ OnlyRegs [idxName x] s t) ∧
  (∀ s : State, ∃ t : State, exec .ldSpHl s = .next t ∧ t.sp = s.hl ∧ OnlyRegs [.sp] s t) ∧
  ∀ (x : Idx) (s : State), ∃ t : State, exec (Form.ldSpXy x) s = .next t ∧
    t.sp = s.idx x ∧ OnlyRegs [.sp] s t

/-- The 16-bit loads between a register and memory at `nn`: the low byte is at `nn`, the high byte at the
next address, FFFFh followed by 0000h. That the low byte is accessed first is the spec's decision D22
(log 28); that ED 63h and ED 6Bh are forms of these is its conflict C10 (log 39). -/
def Obligations.LoadStoreWordDirect : Prop :=
  (∀ (v : Variant) (nn : Word), EncodedAs v (.ldAtNnHl nn) [0x22, lo nn, hi nn] ∧
    EncodedAs v (.ldHlAtNn nn) [0x2A, lo nn, hi nn]) ∧
  (∀ (v : Variant) (nn : Word) (p : Pair),
    EncodedAs v (.ldAtNnPp nn p) [0xED, 0x43 ||| p.code <<< 4, lo nn, hi nn] ∧
    EncodedAs v (.ldPpAtNn p nn) [0xED, 0x4B ||| p.code <<< 4, lo nn, hi nn]) ∧
  (∀ (v : Variant) (nn : Word) (x : Idx),
    EncodedAs v (Form.ldAtNnXy nn x) [prefixByte x, 0x22, lo nn, hi nn] ∧
    EncodedAs v (Form.ldXyAtNn x nn) [prefixByte x, 0x2A, lo nn, hi nn]) ∧
  (∀ (nn : Word) (s : State), ∃ t : State, exec (.ldAtNnHl nn) s = .next t ∧
    OnlyStoresWord [] nn s.hl [.memWrite nn s.main.l, .memWrite (nn + 1) s.main.h] s t) ∧
  (∀ (nn : Word) (p : Pair) (s : State), ∃ t : State, exec (.ldAtNnPp nn p) s = .next t ∧
    OnlyStoresWord [] nn (s.pair p) [.memWrite nn (lo (s.pair p)), .memWrite (nn + 1) (hi (s.pair p))] s t) ∧
  (∀ (nn : Word) (x : Idx) (s : State), ∃ t : State, exec (Form.ldAtNnXy nn x) s = .next t ∧
    OnlyStoresWord [] nn (s.idx x) [.memWrite nn (lo (s.idx x)), .memWrite (nn + 1) (hi (s.idx x))] s t) ∧
  ∀ (nn : Word) (s : State) (l h : Byte), l = s.memIn nn → h = (s.memRead nn).memIn (nn + 1) →
    (∃ t : State, exec (.ldHlAtNn nn) s = .next t ∧ t.main.h = h ∧ t.main.l = l ∧
      OnlyReads [.h, .l] [.memRead nn l, .memRead (nn + 1) h] s t) ∧
    (∀ p : Pair, ∃ t : State, exec (.ldPpAtNn p nn) s = .next t ∧ t.pair p = join h l ∧
      OnlyReads (pairNames p) [.memRead nn l, .memRead (nn + 1) h] s t) ∧
    ∀ x : Idx, ∃ t : State, exec (Form.ldXyAtNn x nn) s = .next t ∧ t.idx x = join h l ∧
      OnlyReads [idxName x] [.memRead nn l, .memRead (nn + 1) h] s t

/-- `PUSH qq`, `PUSH IX`, `PUSH IY`: the high byte at `SP` - 1, then the low byte at `SP` - 2, and `SP` is
the address of the low byte. The wrap through 0000h is the spec's decision D1 (log 16), the byte that
`PUSH AF` stores for `F` its decision D2 (log 17). -/
def Obligations.PushStoresWord : Prop :=
  (∀ (v : Variant) (q : PairQ), EncodedAs v (.pushQq q) [0xC5 ||| q.code <<< 4]) ∧
  (∀ (v : Variant) (x : Idx), EncodedAs v (Form.pushXy x) [prefixByte x, 0xE5]) ∧
  (∀ (q : PairQ) (s : State), ∃ t : State, exec (.pushQq q) s = .next t ∧ t.sp = s.sp - 2 ∧
    OnlyStoresWord [.sp] (s.sp - 2) (s.pairQ q)
      [.memWrite (s.sp - 1) (hi (s.pairQ q)), .memWrite (s.sp - 2) (lo (s.pairQ q))] s t) ∧
  ∀ (x : Idx) (s : State), ∃ t : State, exec (Form.pushXy x) s = .next t ∧ t.sp = s.sp - 2 ∧
    OnlyStoresWord [.sp] (s.sp - 2) (s.idx x)
      [.memWrite (s.sp - 1) (hi (s.idx x)), .memWrite (s.sp - 2) (lo (s.idx x))] s t

/-- `POP qq`, `POP IX`, `POP IY`: the byte at `SP` is the low half, the byte at `SP` + 1 the high half,
and `SP` goes up by two. `POP AF` loads all eight bits of `F`, at the positions of decision D2 (log 17). -/
def Obligations.PopLoadsWord : Prop :=
  (∀ (v : Variant) (q : PairQ), EncodedAs v (.popQq q) [0xC1 ||| q.code <<< 4]) ∧
  (∀ (v : Variant) (x : Idx), EncodedAs v (Form.popXy x) [prefixByte x, 0xE1]) ∧
  ∀ (s : State) (l h : Byte), l = s.memIn s.sp → h = (s.memRead s.sp).memIn (s.sp + 1) →
    (∀ q : PairQ, ∃ t : State, exec (.popQq q) s = .next t ∧ t.pairQ q = join h l ∧ t.sp = s.sp + 2 ∧
      OnlyReads (.sp :: pairQNames q) [.memRead s.sp l, .memRead (s.sp + 1) h] s t) ∧
    ∀ x : Idx, ∃ t : State, exec (Form.popXy x) s = .next t ∧ t.idx x = join h l ∧ t.sp = s.sp + 2 ∧
      OnlyReads [.sp, idxName x] [.memRead s.sp l, .memRead (s.sp + 1) h] s t

/-- `Pop16` (20_memory.md R71), and what its last sentence says of a push followed by a pop: for every
pair pushed and every pair popped, on a stack in RAM. -/
def Obligations.PopAfterPush : Prop :=
  (∀ s : State, s.popIn = join ((s.memRead s.sp).memIn (s.sp + 1)) (s.memIn s.sp) ∧
    s.pop16.sp = s.sp + 2 ∧
    Accesses s s.pop16 [.memRead s.sp (s.memIn s.sp), .memRead (s.sp + 1) ((s.memRead s.sp).memIn (s.sp + 1))]) ∧
  ∀ (q q' : PairQ) (s : State), s.kindAt (s.sp - 1) = .ram → s.kindAt (s.sp - 2) = .ram →
    ∃ t u : State, exec (.pushQq q) s = .next t ∧ exec (.popQq q') t = .next u ∧
      u.sp = s.sp ∧ u.pairQ q' = s.pairQ q

/-! ### 8-bit arithmetic and logic -/

/-- `ADD A,s` and `ADC A,s` for every form of `s`. The half-carry, the overflow and the wrap of an indexed
address are the spec's decisions D23, D5 and D1 (log 19, 18, 16). -/
def Obligations.AddExactSum : Prop :=
  (∀ (v : Variant) (src : Source), EncodedAs v (aluInstr .add src) (aluBytes .add src) ∧
    EncodedAs v (aluInstr .adc src) (aluBytes .adc src)) ∧
  ∀ (op : Alu) (cin : Nat) (src : Source) (s : State),
    (op = .add ∧ cin = 0 ∨ op = .adc ∧ cin = s.flags.c.toNat) →
    ∃ t : State, exec (aluInstr op src) s = .next t ∧
      t.main.a.toNat = (s.main.a.toNat + (src.value s).toNat + cin) % 256 ∧
      t.flags.s = decide (128 ≤ (s.main.a.toNat + (src.value s).toNat + cin) % 256) ∧
      t.flags.z = decide ((s.main.a.toNat + (src.value s).toNat + cin) % 256 = 0) ∧
      t.flags.h = decide (15 < s.main.a.toNat % 16 + (src.value s).toNat % 16 + cin) ∧
      t.flags.pv = decide (s.main.a.toInt + (src.value s).toInt + cin < -128 ∨
        127 < s.main.a.toInt + (src.value s).toInt + cin) ∧
      t.flags.n = false ∧
      t.flags.c = decide (255 < s.main.a.toNat + (src.value s).toNat + cin) ∧
      OnlyReads [.a, .f] (src.accesses s) s t

/-- `SUB s` and `SBC A,s` for every form of `s`. The half-carry, the overflow and the wrap of an indexed
address are the spec's decisions D23, D5 and D1 (log 19, 18, 16). -/
def Obligations.SubtractExactDifference : Prop :=
  (∀ (v : Variant) (src : Source), EncodedAs v (aluInstr .sub src) (aluBytes .sub src) ∧
    EncodedAs v (aluInstr .sbc src) (aluBytes .sbc src)) ∧
  ∀ (op : Alu) (cin : Nat) (src : Source) (s : State),
    (op = .sub ∧ cin = 0 ∨ op = .sbc ∧ cin = s.flags.c.toNat) →
    ∃ t : State, exec (aluInstr op src) s = .next t ∧
      (t.main.a.toNat : Int) = ((s.main.a.toNat : Int) - (src.value s).toNat - cin) % 256 ∧
      t.flags.s = t.main.a.getLsbD 7 ∧
      t.flags.z = decide (t.main.a.toNat = 0) ∧
      t.flags.h = decide (s.main.a.toNat % 16 < (src.value s).toNat % 16 + cin) ∧
      t.flags.pv = decide (s.main.a.toInt - (src.value s).toInt - cin < -128 ∨
        127 < s.main.a.toInt - (src.value s).toInt - cin) ∧
      t.flags.n = true ∧
      t.flags.c = decide (s.main.a.toNat < (src.value s).toNat + cin) ∧
      OnlyReads [.a, .f] (src.accesses s) s t

/-- `CP s` for every form of `s`: the flags of `SUB s`, and `A` keeps its value. Half-carry, overflow and
the wrap of an indexed address are the spec's decisions D23, D5 and D1 (log 19, 18, 16). -/
def Obligations.CompareKeepsAccumulator : Prop :=
  (∀ (v : Variant) (src : Source), EncodedAs v (aluInstr .cp src) (aluBytes .cp src)) ∧
  ∀ (src : Source) (s : State), ∃ t u : State,
    exec (aluInstr .cp src) s = .next t ∧ exec (aluInstr .sub src) s = .next u ∧
      t.flags = u.flags ∧
      t.flags.z = decide (s.main.a = src.value s) ∧
      t.flags.c = decide (s.main.a.toNat < (src.value s).toNat) ∧
      OnlyReads [.f] (src.accesses s) s t

/-- `AND r`, `AND n`, `AND (HL)` (42_logic.md R190 to R193): bit by bit, with the flags of R190. -/
def Obligations.AndWithOperand : Prop :=
  ∀ (src : Source) (s : State), (∀ x d, src ≠ .atXyd x d) →
    (∀ v : Variant, EncodedAs v (aluInstr .and src) (aluBytes .and src)) ∧
    ∃ t : State, exec (aluInstr .and src) s = .next t ∧
      (∀ k : Nat, t.main.a.getLsbD k = (s.main.a.getLsbD k && (src.value s).getLsbD k)) ∧
      t.flags = { s := t.main.a.getLsbD 7, z := decide (t.main.a.toNat = 0), h := true, pv := evenOnes t.main.a, n := false, c := false } ∧
      OnlyReads [.a, .f] (src.accesses s) s t

/-- `OR` and `XOR` of a register, an immediate byte and `(HL)` (R195 to R197, R199 to R201). -/
def Obligations.OrXorWithOperand : Prop :=
  ∀ (src : Source) (s : State), (∀ x d, src ≠ .atXyd x d) →
    (∀ v : Variant, EncodedAs v (aluInstr .or src) (aluBytes .or src) ∧
      EncodedAs v (aluInstr .xor src) (aluBytes .xor src)) ∧
    (∃ t : State, exec (aluInstr .or src) s = .next t ∧
      (∀ k : Nat, t.main.a.getLsbD k = (s.main.a.getLsbD k || (src.value s).getLsbD k)) ∧
      t.flags = { s := t.main.a.getLsbD 7, z := decide (t.main.a.toNat = 0), h := false, pv := evenOnes t.main.a, n := false, c := false } ∧
      OnlyReads [.a, .f] (src.accesses s) s t) ∧
    ∃ t : State, exec (aluInstr .xor src) s = .next t ∧
      (∀ k : Nat, t.main.a.getLsbD k = (s.main.a.getLsbD k ^^ (src.value s).getLsbD k)) ∧
      t.flags = { s := t.main.a.getLsbD 7, z := decide (t.main.a.toNat = 0), h := false, pv := evenOnes t.main.a, n := false, c := false } ∧
      OnlyReads [.a, .f] (src.accesses s) s t

/-- The indexed forms of the 8-bit group, of `INC` and of `DEC`: the same result and flags as the form on
that byte alone. The wrap of the address is the spec's decision D1 (log 16). -/
def Obligations.IndexedArithmetic : Prop :=
  (∀ (v : Variant) (op : Alu) (x : Idx) (d : Byte),
    EncodedAs v (Form.aluAtXyd op x d) [prefixByte x, 0x86 ||| aluCode op <<< 3, d]) ∧
  (∀ (v : Variant) (x : Idx) (d : Byte), EncodedAs v (Form.incAtXyd x d) [prefixByte x, 0x34, d] ∧
    EncodedAs v (Form.decAtXyd x d) [prefixByte x, 0x35, d]) ∧
  ∀ (x : Idx) (d : Byte) (s : State) (a : Word), a = BitVec.ofInt 16 ((s.idx x).toNat + d.toInt) →
    (∀ op : Alu, ∃ t u : State, exec (Form.aluAtXyd op x d) s = .next t ∧
      exec (Form.aluN op (s.memIn a)) s = .next u ∧ t.main.a = u.main.a ∧ t.flags = u.flags ∧
      OnlyReads [.a, .f] [.memRead a (s.memIn a)] s t) ∧
    (∃ t : State, exec (Form.incAtXyd x d) s = .next t ∧
      t.flags = { s := (s.memIn a + 1).getLsbD 7, z := decide (s.memIn a + 1 = 0), h := decide (s.memIn a &&& 0x0F = 0x0F), pv := decide (s.memIn a = 0x7F), n := false, c := s.flags.c } ∧
      OnlyStores [.f] a (s.memIn a + 1) [.memRead a (s.memIn a), .memWrite a (s.memIn a + 1)] s t) ∧
    ∃ t : State, exec (Form.decAtXyd x d) s = .next t ∧
      t.flags = { s := (s.memIn a - 1).getLsbD 7, z := decide (s.memIn a - 1 = 0), h := decide (s.memIn a &&& 0x0F = 0), pv := decide (s.memIn a = 0x80), n := true, c := s.flags.c } ∧
      OnlyStores [.f] a (s.memIn a - 1) [.memRead a (s.memIn a), .memWrite a (s.memIn a - 1)] s t

/-- `INC r`, `INC (HL)`, `DEC r`, `DEC (HL)` (40_arith8.md R132, R133, R151, R152, R155, R156). -/
def Obligations.IncrementDecrementByte : Prop :=
  (∀ (v : Variant) (r : Reg8), EncodedAs v (Form.incR r) [0x04 ||| regCode r <<< 3] ∧
    EncodedAs v (Form.decR r) [0x05 ||| regCode r <<< 3]) ∧
  (∀ v : Variant, EncodedAs v .incAtHl [0x34] ∧ EncodedAs v .decAtHl [0x35]) ∧
  (∀ (r : Reg8) (s : State), ∃ t : State, exec (Form.incR r) s = .next t ∧
    (t.reg r).toNat = ((s.reg r).toNat + 1) % 256 ∧
    t.flags = { s := (t.reg r).getLsbD 7, z := decide ((t.reg r).toNat = 0), h := decide ((s.reg r).toNat % 16 = 15), pv := decide ((s.reg r).toNat = 127), n := false, c := s.flags.c } ∧
    OnlyRegs [nameOf r, .f] s t) ∧
  (∀ (r : Reg8) (s : State), ∃ t : State, exec (Form.decR r) s = .next t ∧
    (t.reg r).toNat = ((s.reg r).toNat + 255) % 256 ∧
    t.flags = { s := (t.reg r).getLsbD 7, z := decide ((t.reg r).toNat = 0), h := decide ((s.reg r).toNat % 16 = 0), pv := decide ((s.reg r).toNat = 128), n := true, c := s.flags.c } ∧
    OnlyRegs [nameOf r, .f] s t) ∧
  ∀ (s : State) (v : Byte), v = s.memIn s.hl →
    (∃ t : State, exec .incAtHl s = .next t ∧
      t.flags = { s := (v + 1).getLsbD 7, z := decide (v = 0xFF), h := decide (v.toNat % 16 = 15), pv := decide (v = 0x7F), n := false, c := s.flags.c } ∧
      OnlyStores [.f] s.hl (v + 1) [.memRead s.hl v, .memWrite s.hl (v + 1)] s t) ∧
    ∃ t : State, exec .decAtHl s = .next t ∧
      t.flags = { s := (v - 1).getLsbD 7, z := decide (v = 1), h := decide (v.toNat % 16 = 0), pv := decide (v = 0x80), n := true, c := s.flags.c } ∧
      OnlyStores [.f] s.hl (v - 1) [.memRead s.hl v, .memWrite s.hl (v - 1)] s t

/-! ### 16-bit arithmetic -/

/-- `ADD HL,pp`, `ADD IX,pp`, `ADD IY,pp` (41_arith16.md R172 to R175). -/
def Obligations.AddPair : Prop :=
  (∀ (v : Variant) (p : Pair), EncodedAs v (.addHlPp p) [0x09 ||| p.code <<< 4]) ∧
  (∀ (v : Variant) (x : Idx) (p : PairX), EncodedAs v (Form.addXyPp x p) [prefixByte x, 0x09 ||| p.code <<< 4]) ∧
  (∀ (p : Pair) (s : State), ∃ t : State, exec (.addHlPp p) s = .next t ∧
    t.hl.toNat = (s.hl.toNat + (s.pair p).toNat) % 65536 ∧
    t.flags = { s := s.flags.s, z := s.flags.z, h := decide (4095 < s.hl.toNat % 4096 + (s.pair p).toNat % 4096), pv := s.flags.pv, n := false, c := decide (65535 < s.hl.toNat + (s.pair p).toNat) } ∧
    OnlyRegs [.h, .l, .f] s t) ∧
  ∀ (x : Idx) (p : PairX) (s : State), ∃ t : State, exec (Form.addXyPp x p) s = .next t ∧
    (t.idx x).toNat = ((s.idx x).toNat + (s.pairX x p).toNat) % 65536 ∧
    t.flags = { s := s.flags.s, z := s.flags.z, h := decide (4095 < (s.idx x).toNat % 4096 + (s.pairX x p).toNat % 4096), pv := s.flags.pv, n := false, c := decide (65535 < (s.idx x).toNat + (s.pairX x p).toNat) } ∧
    OnlyRegs [idxName x, .f] s t

/-- `ADC HL,pp` and `SBC HL,pp`. Overflow and half-carry are the spec's decisions D5 and D23 (log 18, 19). -/
def Obligations.AddSubtractWithCarryHl : Prop :=
  (∀ (v : Variant) (p : Pair), EncodedAs v (.adcHlPp p) [0xED, 0x4A ||| p.code <<< 4] ∧
    EncodedAs v (.sbcHlPp p) [0xED, 0x42 ||| p.code <<< 4]) ∧
  (∀ (p : Pair) (s : State), ∃ t : State, exec (.adcHlPp p) s = .next t ∧
    t.hl.toNat = (s.hl.toNat + (s.pair p).toNat + s.flags.c.toNat) % 65536 ∧
    t.flags.s = t.hl.getLsbD 15 ∧ t.flags.z = decide (t.hl.toNat = 0) ∧
    t.flags.h = decide (4095 < s.hl.toNat % 4096 + (s.pair p).toNat % 4096 + s.flags.c.toNat) ∧
    t.flags.pv = decide (s.hl.toInt + (s.pair p).toInt + s.flags.c.toNat < -32768 ∨
      32767 < s.hl.toInt + (s.pair p).toInt + s.flags.c.toNat) ∧
    t.flags.n = false ∧
    t.flags.c = decide (65535 < s.hl.toNat + (s.pair p).toNat + s.flags.c.toNat) ∧
    OnlyRegs [.h, .l, .f] s t) ∧
  ∀ (p : Pair) (s : State), ∃ t : State, exec (.sbcHlPp p) s = .next t ∧
    (t.hl.toNat : Int) = ((s.hl.toNat : Int) - (s.pair p).toNat - s.flags.c.toNat) % 65536 ∧
    t.flags.s = t.hl.getLsbD 15 ∧ t.flags.z = decide (t.hl.toNat = 0) ∧
    t.flags.h = decide (s.hl.toNat % 4096 < (s.pair p).toNat % 4096 + s.flags.c.toNat) ∧
    t.flags.pv = decide (s.hl.toInt - (s.pair p).toInt - s.flags.c.toNat < -32768 ∨
      32767 < s.hl.toInt - (s.pair p).toInt - s.flags.c.toNat) ∧
    t.flags.n = true ∧
    t.flags.c = decide (s.hl.toNat < (s.pair p).toNat + s.flags.c.toNat) ∧
    OnlyRegs [.h, .l, .f] s t

/-- `INC` and `DEC` of a pair and of an index register (R178 to R181): no flag changes. -/
def Obligations.IncrementDecrementPair : Prop :=
  (∀ (v : Variant) (p : Pair), EncodedAs v (.incPp p) [0x03 ||| p.code <<< 4] ∧
    EncodedAs v (.decPp p) [0x0B ||| p.code <<< 4]) ∧
  (∀ (v : Variant) (x : Idx), EncodedAs v (Form.incXy x) [prefixByte x, 0x23] ∧
    EncodedAs v (Form.decXy x) [prefixByte x, 0x2B]) ∧
  (∀ (p : Pair) (s : State), ∃ t : State, exec (.incPp p) s = .next t ∧
    (t.pair p).toNat = ((s.pair p).toNat + 1) % 65536 ∧ OnlyRegs (pairNames p) s t) ∧
  (∀ (p : Pair) (s : State), ∃ t : State, exec (.decPp p) s = .next t ∧
    (t.pair p).toNat = ((s.pair p).toNat + 65535) % 65536 ∧ OnlyRegs (pairNames p) s t) ∧
  (∀ (x : Idx) (s : State), ∃ t : State, exec (Form.incXy x) s = .next t ∧
    (t.idx x).toNat = ((s.idx x).toNat + 1) % 65536 ∧ OnlyRegs [idxName x] s t) ∧
  ∀ (x : Idx) (s : State), ∃ t : State, exec (Form.decXy x) s = .next t ∧
    (t.idx x).toNat = ((s.idx x).toNat + 65535) % 65536 ∧ OnlyRegs [idxName x] s t

/-! ### General-purpose arithmetic and control -/

/-- `DAA` (45_general_control.md R281): the 22 printed rows cover every case exactly once, and the row
that applies gives the adjustment and C. Nothing is said of H, F5 and F3 afterwards. -/
def Obligations.DecimalAdjustFollowsTable : Prop :=
  (∀ v : Variant, EncodedAs v .daa [0x27]) ∧
  (∀ (n c h : Bool) (a : Byte), daaTable.countP (fun row => row.applies n c h a) = 1) ∧
  ∀ (row : DaaRow) (s : State), row ∈ daaTable →
    row.applies s.flags.n s.flags.c s.flags.h s.main.a = true →
    ∃ t : State, exec .daa s = .next t ∧
      t.main.a = (if s.flags.n then s.main.a - row.adjust else s.main.a + row.adjust) ∧
      t.flags.s = t.main.a.getLsbD 7 ∧ t.flags.z = decide (t.main.a.toNat = 0) ∧
      t.flags.pv = evenOnes t.main.a ∧ t.flags.n = s.flags.n ∧ t.flags.c = row.cAfter ∧
      OnlyRegs [.a, .f] s t

/-- `CPL`, `NEG`, `SCF` (R282, R283, R285). -/
def Obligations.ComplementNegateSetCarry : Prop :=
  (∀ v : Variant, EncodedAs v .cpl [0x2F] ∧ EncodedAs v .neg [0xED, 0x44] ∧ EncodedAs v .scf [0x37]) ∧
  (∀ s : State, ∃ t : State, exec .cpl s = .next t ∧
    (∀ k : Nat, k < 8 → t.main.a.getLsbD k = !s.main.a.getLsbD k) ∧
    t.flags = { s.flags with h := true, n := true } ∧ OnlyRegs [.a, .f] s t) ∧
  (∀ s : State, ∃ t : State, exec .neg s = .next t ∧
    t.main.a.toNat = (256 - s.main.a.toNat) % 256 ∧
    t.flags = { s := t.main.a.getLsbD 7, z := decide (t.main.a.toNat = 0), h := decide (s.main.a.toNat % 16 ≠ 0), pv := decide (s.main.a.toNat = 128), n := true, c := decide (s.main.a.toNat ≠ 0) } ∧
    OnlyRegs [.a, .f] s t) ∧
  ∀ s : State, ∃ t : State, exec .scf s = .next t ∧
    t.flags = { s.flags with h := false, n := false, c := true } ∧ OnlyRegs [.f] s t

/-- `CCF`. Its C line is restored by the spec's decision D7 (log 20). -/
def Obligations.ComplementCarryFlag : Prop :=
  (∀ v : Variant, EncodedAs v .ccf [0x3F]) ∧
  ∀ s : State, ∃ t : State, exec .ccf s = .next t ∧
    t.flags = { s.flags with h := s.flags.c, n := false, c := !s.flags.c } ∧ OnlyRegs [.f] s t

/-- `NOP` and `DI` (R280, R288). A request that is High when `DI` completes is not accepted. -/
def Obligations.NopAndDisableInterrupts : Prop :=
  (∀ v : Variant, EncodedAs v .nop [0x00] ∧ EncodedAs v .di [0xF3]) ∧
  (∀ s : State, exec .nop s = .next s) ∧
  (∀ s : State, ∃ t : State, exec .di s = .next t ∧ t.iff1 = false ∧ t.iff2 = false ∧
    OnlyRegs [.iff1, .iff2] s t) ∧
  ∀ (s t : State) (b : Boundary), exec .di s = .next t →
    t.runBoundary { b with int := true } = t.runBoundary { b with int := false }

/-- `HALT` sets `halted`, `EI` sets both flip-flops and the shadow, and neither does anything else. What
`pc` a halted processor holds, and that `NMI` ignores the shadow, are the spec's decisions D12 and D16
(log 26, 24). -/
def Obligations.HaltAndEnableInterrupts : Prop :=
  (∀ v : Variant, EncodedAs v .halt [0x76] ∧ EncodedAs v .ei [0xFB]) ∧
  (∀ s : State, ∃ t : State, exec .halt s = .next t ∧ t.halted = true ∧
    SameRegsBut [] s t ∧ SameControl s { t with halted := s.halted } ∧ SameMem s t ∧ Accesses s t []) ∧
  ∀ s : State, ∃ t : State, exec .ei s = .next t ∧ t.iff1 = true ∧ t.iff2 = true ∧ t.eiShadow = true ∧
    SameRegsBut [.iff1, .iff2] s t ∧ SameControl s { t with eiShadow := s.eiShadow } ∧ SameMem s t ∧
    Accesses s t []

/-- `IM 0`, `IM 1`, `IM 2` (R289 to R291); the encoding ED 4Eh, `mm` = 01, is no instruction. -/
def Obligations.InterruptModeSelect : Prop :=
  (∀ v : Variant, EncodedAs v .im0 [0xED, 0x46] ∧ EncodedAs v .im1 [0xED, 0x56] ∧ EncodedAs v .im2 [0xED, 0x5E]) ∧
  (∀ (v : Variant) (rest : List Byte), decode v (0xED :: 0x4E :: rest) = .error .undefinedEd) ∧
  (∀ s : State, ∃ t : State, exec .im0 s = .next t ∧ t.im.number = 0 ∧ OnlyRegs [.im] s t) ∧
  (∀ s : State, ∃ t : State, exec .im1 s = .next t ∧ t.im.number = 1 ∧ OnlyRegs [.im] s t) ∧
  ∀ s : State, ∃ t : State, exec .im2 s = .next t ∧ t.im.number = 2 ∧ OnlyRegs [.im] s t

/-- `TRAP` and the byte 64h. That 64h stops the processor, where `pc` then stands, and that `TRAP` has no
meaning on the TSK80A are the spec's decision D17 (log 27). -/
def Obligations.DebugStopInstructions : Prop :=
  EncodedAs .tsk80aD .trap [0xED, 0x00] ∧ EncodedAs .tsk80aD .breakpoint64 [0x64] ∧
  (∀ s : State, s.platform.variant = .tsk80aD → s.debugEnable = false → exec .trap s = .next s) ∧
  (∀ s : State, s.platform.variant = .tsk80aD → s.debugEnable = true → ∃ t : State,
    exec .trap s = .next t ∧ t.pc = s.pc - 2 ∧ t.debugStopped = true ∧ SameRegsBut [.pc] s t ∧
    SameControl s { t with debugStopped := s.debugStopped } ∧ SameMem s t ∧ Accesses s t []) ∧
  (∀ s : State, s.platform.variant = .tsk80a → exec .trap s = .fault .trapOnTsk80a) ∧
  (∀ s : State, s.platform.variant = .tsk80aD → ∃ t : State,
    exec .breakpoint64 s = .next t ∧ t.pc = s.pc - 1 ∧ t.debugStopped = true ∧ SameRegsBut [.pc] s t ∧
    SameControl s { t with debugStopped := s.debugStopped } ∧ SameMem s t ∧ Accesses s t []) ∧
  ∀ s : State, s.platform.variant = .tsk80a → exec .breakpoint64 s = .next s

/-! ### Jumps, calls, returns -/

/-- `JP nn`, `JP (HL)`, `JP (IX)`, `JP (IY)` (46_jump_call_return.md R300, R302 to R304): no memory is read
by the register forms. -/
def Obligations.JumpAbsolute : Prop :=
  (∀ (v : Variant) (nn : Word), EncodedAs v (.jpNn nn) [0xC3, lo nn, hi nn]) ∧
  (∀ v : Variant, EncodedAs v .jpHl [0xE9]) ∧
  (∀ (v : Variant) (x : Idx), EncodedAs v (Form.jpXy x) [prefixByte x, 0xE9]) ∧
  (∀ (nn : Word) (s : State), ∃ t : State, exec (.jpNn nn) s = .next t ∧ t.pc = nn ∧ OnlyRegs [.pc] s t) ∧
  (∀ s : State, ∃ t : State, exec .jpHl s = .next t ∧ t.pc = s.hl ∧ OnlyRegs [.pc] s t) ∧
  ∀ (x : Idx) (s : State), ∃ t : State, exec (Form.jpXy x) s = .next t ∧ t.pc = s.idx x ∧ OnlyRegs [.pc] s t

/-- `JP cc,nn`, `JR e`, `JR cc,e`, `DJNZ e` (R301, R305, R306, R307): a displacement counts from the byte
after the instruction, modulo 65536. -/
def Obligations.JumpConditionalAndRelative : Prop :=
  (∀ (v : Variant) (cc : Cond) (nn : Word), EncodedAs v (.jpCcNn cc nn) [0xC2 ||| cc.code <<< 3, lo nn, hi nn]) ∧
  (∀ (v : Variant) (e : Byte), EncodedAs v (.jrE e) [0x18, e] ∧ EncodedAs v (.djnzE e) [0x10, e]) ∧
  (∀ (v : Variant) (cc : Cond4) (e : Byte), EncodedAs v (.jrCcE cc e) [0x20 ||| cc.code <<< 3, e]) ∧
  (∀ (cc : Cond) (nn : Word) (s : State), ∃ t : State, exec (.jpCcNn cc nn) s = .next t ∧
    (condTrue cc s → t.pc = nn) ∧ (¬condTrue cc s → t.pc = s.pc) ∧ OnlyRegs [.pc] s t) ∧
  (∀ (e : Byte) (s : State), ∃ t : State, exec (.jrE e) s = .next t ∧
    (t.pc.toNat : Int) = (s.pc.toNat + e.toInt) % 65536 ∧ OnlyRegs [.pc] s t) ∧
  (∀ (cc : Cond4) (e : Byte) (s : State), ∃ t : State, exec (.jrCcE cc e) s = .next t ∧
    (condTrue (wideCond cc) s → (t.pc.toNat : Int) = (s.pc.toNat + e.toInt) % 65536) ∧
    (¬condTrue (wideCond cc) s → t.pc = s.pc) ∧ OnlyRegs [.pc] s t) ∧
  ∀ (e : Byte) (s : State), ∃ t : State, exec (.djnzE e) s = .next t ∧
    t.main.b.toNat = (s.main.b.toNat + 255) % 256 ∧
    (t.main.b.toNat ≠ 0 → (t.pc.toNat : Int) = (s.pc.toNat + e.toInt) % 65536) ∧
    (t.main.b.toNat = 0 → t.pc = s.pc) ∧ OnlyRegs [.b, .pc] s t

/-- `CALL nn`, `CALL cc,nn`, `RST p`: the address of the next instruction is pushed. The wrap of `SP` and
the order of the accesses are the spec's decisions D1 and D22 (log 16, 28). A term `rstP p` whose `p` is
no restart address acts alike; the decoder gives none. -/
def Obligations.CallAndRestart : Prop :=
  (∀ (v : Variant) (nn : Word), EncodedAs v (.callNn nn) [0xCD, lo nn, hi nn]) ∧
  (∀ (v : Variant) (cc : Cond) (nn : Word), EncodedAs v (.callCcNn cc nn) [0xC4 ||| cc.code <<< 3, lo nn, hi nn]) ∧
  (∀ (v : Variant) (ttt : BitVec 3),
    EncodedAs v (.rstP (ttt.zeroExtend 8 <<< 3)) [0xC7 ||| ttt.zeroExtend 8 <<< 3]) ∧
  ∀ (s : State) (events : List BusEvent),
    events = [.memWrite (s.sp - 1) (hi s.pc), .memWrite (s.sp - 2) (lo s.pc)] →
    (∀ nn : Word, ∃ t : State, exec (.callNn nn) s = .next t ∧ t.pc = nn ∧ t.sp = s.sp - 2 ∧
      OnlyStoresWord [.sp, .pc] (s.sp - 2) s.pc events s t) ∧
    (∀ (cc : Cond) (nn : Word), condTrue cc s → ∃ t : State, exec (.callCcNn cc nn) s = .next t ∧
      t.pc = nn ∧ t.sp = s.sp - 2 ∧ OnlyStoresWord [.sp, .pc] (s.sp - 2) s.pc events s t) ∧
    (∀ (cc : Cond) (nn : Word), ¬condTrue cc s → exec (.callCcNn cc nn) s = .next s) ∧
    ∀ p : Byte, ∃ t : State, exec (.rstP p) s = .next t ∧ t.pc.toNat = p.toNat ∧ t.sp = s.sp - 2 ∧
      OnlyStoresWord [.sp, .pc] (s.sp - 2) s.pc events s t

/-- `RET`, `RET cc`, `RETI` (R310 to R312): `RETI` changes neither flip-flop. -/
def Obligations.Returns : Prop :=
  (∀ v : Variant, EncodedAs v .ret [0xC9] ∧ EncodedAs v .reti [0xED, 0x4D]) ∧
  (∀ (v : Variant) (cc : Cond), EncodedAs v (.retCc cc) [0xC0 ||| cc.code <<< 3]) ∧
  ∀ (s : State) (l h : Byte) (events : List BusEvent), l = s.memIn s.sp →
    h = (s.memRead s.sp).memIn (s.sp + 1) → events = [.memRead s.sp l, .memRead (s.sp + 1) h] →
    (∃ t : State, exec .ret s = .next t ∧ t.pc = join h l ∧ t.sp = s.sp + 2 ∧
      OnlyReads [.sp, .pc] events s t) ∧
    (∃ t : State, exec .reti s = .next t ∧ t.pc = join h l ∧ t.sp = s.sp + 2 ∧
      OnlyReads [.sp, .pc] events s t) ∧
    (∀ cc : Cond, condTrue cc s → ∃ t : State, exec (.retCc cc) s = .next t ∧ t.pc = join h l ∧
      t.sp = s.sp + 2 ∧ OnlyReads [.sp, .pc] events s t) ∧
    ∀ cc : Cond, ¬condTrue cc s → exec (.retCc cc) s = .next s

/-! ### Rotates, shifts, bits -/

/-- `RLCA`, `RLA`, `RRCA`, `RRA` (47_rotate_shift_bit.md R331 to R334), bit by bit: S, Z and P/V keep
their values. -/
def Obligations.RotateAccumulator : Prop :=
  (∀ v : Variant, EncodedAs v .rlca [0x07] ∧ EncodedAs v .rla [0x17] ∧ EncodedAs v .rrca [0x0F] ∧
    EncodedAs v .rra [0x1F]) ∧
  ∀ (i : Instr) (op : Rot) (s : State),
    (i, op) ∈ [(Instr.rlca, Rot.rlc), (.rla, .rl), (.rrca, .rrc), (.rra, .rr)] →
    ∃ t : State, exec i s = .next t ∧
      (∀ k : Nat, k < 8 → t.main.a.getLsbD k = rotatedBit op s.main.a s.flags.c k) ∧
      t.flags = { s.flags with h := false, n := false, c := rotatedOut op s.main.a } ∧
      OnlyRegs [.a, .f] s t

/-- The CB rotates and shifts of a register (R330, R335, R339, R343, R347, R351, R355, R359). -/
def Obligations.RotateShiftRegister : Prop :=
  ∀ (op : Rot) (r : Reg8),
    (∀ v : Variant, EncodedAs v (Form.rotR op r) [0xCB, rotCode op <<< 3 ||| regCode r]) ∧
    ∀ s : State, ∃ t : State, exec (Form.rotR op r) s = .next t ∧
      (∀ k : Nat, k < 8 → (t.reg r).getLsbD k = rotatedBit op (s.reg r) s.flags.c k) ∧
      t.flags = { s := (t.reg r).getLsbD 7, z := decide ((t.reg r).toNat = 0), h := false, pv := evenOnes (t.reg r), n := false, c := rotatedOut op (s.reg r) } ∧
      OnlyRegs [nameOf r, .f] s t

/-- The CB rotates and shifts of `(HL)` (R330, R336, R340, R344, R348, R352, R356, R360): one read, then
one write at the same address. -/
def Obligations.RotateShiftAtHl : Prop :=
  ∀ op : Rot,
    (∀ v : Variant, EncodedAs v (Form.rotAtHl op) [0xCB, rotCode op <<< 3 ||| 6]) ∧
    ∀ s : State, ∃ (t : State) (m : Byte), exec (Form.rotAtHl op) s = .next t ∧
      (∀ k : Nat, k < 8 → m.getLsbD k = rotatedBit op (s.memIn s.hl) s.flags.c k) ∧
      t.flags = { s := m.getLsbD 7, z := decide (m.toNat = 0), h := false, pv := evenOnes m, n := false, c := rotatedOut op (s.memIn s.hl) } ∧
      OnlyStores [.f] s.hl m [.memRead s.hl (s.memIn s.hl), .memWrite s.hl m] s t

/-- The DD CB and FD CB forms. The wrap of the address is the spec's decision D1 (log 16), the C line of
`BIT` its decision D7 (log 20). -/
def Obligations.IndexedBitOperations : Prop :=
  (∀ (v : Variant) (op : Rot) (x : Idx) (d : Byte),
    EncodedAs v (Form.rotAtXyd op x d) [prefixByte x, 0xCB, d, rotCode op <<< 3 ||| 6]) ∧
  (∀ (v : Variant) (b : BitVec 3) (x : Idx) (d : Byte),
    EncodedAs v (Form.bitAtXyd b x d) [prefixByte x, 0xCB, d, 0x46 ||| b.zeroExtend 8 <<< 3] ∧
    EncodedAs v (Form.resAtXyd b x d) [prefixByte x, 0xCB, d, 0x86 ||| b.zeroExtend 8 <<< 3] ∧
    EncodedAs v (Form.setAtXyd b x d) [prefixByte x, 0xCB, d, 0xC6 ||| b.zeroExtend 8 <<< 3]) ∧
  ∀ (x : Idx) (d : Byte) (s : State) (a : Word) (v : Byte),
    a = BitVec.ofInt 16 ((s.idx x).toNat + d.toInt) → v = s.memIn a →
    (∀ op : Rot, ∃ (t : State) (m : Byte), exec (Form.rotAtXyd op x d) s = .next t ∧
      (∀ k : Nat, k < 8 → m.getLsbD k = rotatedBit op v s.flags.c k) ∧
      t.flags = { s := m.getLsbD 7, z := decide (m.toNat = 0), h := false, pv := evenOnes m, n := false, c := rotatedOut op v } ∧
      OnlyStores [.f] a m [.memRead a v, .memWrite a m] s t) ∧
    (∀ b : BitVec 3, ∃ t : State, exec (Form.bitAtXyd b x d) s = .next t ∧
      t.flags = { s := decide (b = 7 ∧ v.getLsbD 7 = true), z := !v.getLsbD b.toNat, h := true, pv := !v.getLsbD b.toNat, n := false, c := s.flags.c } ∧
      OnlyReads [.f] [.memRead a v] s t) ∧
    (∀ b : BitVec 3, ∃ (t : State) (m : Byte), exec (Form.setAtXyd b x d) s = .next t ∧
      (∀ k : Nat, k < 8 → m.getLsbD k = (decide (k = b.toNat) || v.getLsbD k)) ∧
      OnlyStores [] a m [.memRead a v, .memWrite a m] s t) ∧
    ∀ b : BitVec 3, ∃ (t : State) (m : Byte), exec (Form.resAtXyd b x d) s = .next t ∧
      (∀ k : Nat, k < 8 → m.getLsbD k = (decide (k ≠ b.toNat) && v.getLsbD k)) ∧
      OnlyStores [] a m [.memRead a v, .memWrite a m] s t

/-- `RLD` and `RRD` (R363, R364). -/
def Obligations.DigitRotates : Prop :=
  (∀ v : Variant, EncodedAs v .rld [0xED, 0x6F] ∧ EncodedAs v .rrd [0xED, 0x67]) ∧
  ∀ (s : State) (v : Byte), v = s.memIn s.hl →
    (∃ (t : State) (m : Byte), exec .rld s = .next t ∧
      m.toNat = v.toNat % 16 * 16 + s.main.a.toNat % 16 ∧
      t.main.a.toNat = s.main.a.toNat / 16 * 16 + v.toNat / 16 ∧
      t.flags = { s := t.main.a.getLsbD 7, z := decide (t.main.a.toNat = 0), h := false, pv := evenOnes t.main.a, n := false, c := s.flags.c } ∧
      OnlyStores [.a, .f] s.hl m [.memRead s.hl v, .memWrite s.hl m] s t) ∧
    ∃ (t : State) (m : Byte), exec .rrd s = .next t ∧
      m.toNat = s.main.a.toNat % 16 * 16 + v.toNat / 16 ∧
      t.main.a.toNat = s.main.a.toNat / 16 * 16 + v.toNat % 16 ∧
      t.flags = { s := t.main.a.getLsbD 7, z := decide (t.main.a.toNat = 0), h := false, pv := evenOnes t.main.a, n := false, c := s.flags.c } ∧
      OnlyStores [.a, .f] s.hl m [.memRead s.hl v, .memWrite s.hl m] s t

/-- `BIT b,r` and `BIT b,(HL)`. The C line is restored by the spec's decision D7 (log 20). -/
def Obligations.BitTest : Prop :=
  (∀ (v : Variant) (b : BitVec 3) (r : Reg8),
    EncodedAs v (Form.bitR b r) [0xCB, 0x40 ||| b.zeroExtend 8 <<< 3 ||| regCode r] ∧
      EncodedAs v (.bitAtHl b) [0xCB, 0x46 ||| b.zeroExtend 8 <<< 3]) ∧
  (∀ (b : BitVec 3) (r : Reg8) (s : State), ∃ t : State, exec (Form.bitR b r) s = .next t ∧
    t.flags = { s := decide (b = 7 ∧ (s.reg r).getLsbD 7 = true), z := !(s.reg r).getLsbD b.toNat, h := true, pv := !(s.reg r).getLsbD b.toNat, n := false, c := s.flags.c } ∧
    OnlyRegs [.f] s t) ∧
  ∀ (b : BitVec 3) (s : State) (v : Byte), v = s.memIn s.hl → ∃ t : State, exec (.bitAtHl b) s = .next t ∧
    t.flags = { s := decide (b = 7 ∧ v.getLsbD 7 = true), z := !v.getLsbD b.toNat, h := true, pv := !v.getLsbD b.toNat, n := false, c := s.flags.c } ∧
    OnlyReads [.f] [.memRead s.hl v] s t

/-- `SET` and `RES` of a register and of `(HL)` (R369, R370, R373, R374), bit by bit: no flag changes. -/
def Obligations.SetResetBit : Prop :=
  (∀ (v : Variant) (b : BitVec 3) (r : Reg8),
    EncodedAs v (Form.setR b r) [0xCB, 0xC0 ||| b.zeroExtend 8 <<< 3 ||| regCode r] ∧
      EncodedAs v (Form.resR b r) [0xCB, 0x80 ||| b.zeroExtend 8 <<< 3 ||| regCode r] ∧
      EncodedAs v (.setAtHl b) [0xCB, 0xC6 ||| b.zeroExtend 8 <<< 3] ∧
      EncodedAs v (.resAtHl b) [0xCB, 0x86 ||| b.zeroExtend 8 <<< 3]) ∧
  (∀ (b : BitVec 3) (r : Reg8) (s : State), ∃ t : State, exec (Form.setR b r) s = .next t ∧
    (∀ k : Nat, k < 8 → (t.reg r).getLsbD k = (decide (k = b.toNat) || (s.reg r).getLsbD k)) ∧
    OnlyRegs [nameOf r] s t) ∧
  (∀ (b : BitVec 3) (r : Reg8) (s : State), ∃ t : State, exec (Form.resR b r) s = .next t ∧
    (∀ k : Nat, k < 8 → (t.reg r).getLsbD k = (decide (k ≠ b.toNat) && (s.reg r).getLsbD k)) ∧
    OnlyRegs [nameOf r] s t) ∧
  ∀ (b : BitVec 3) (s : State) (v : Byte), v = s.memIn s.hl →
    (∃ (t : State) (m : Byte), exec (.setAtHl b) s = .next t ∧
      (∀ k : Nat, k < 8 → m.getLsbD k = (decide (k = b.toNat) || v.getLsbD k)) ∧
      OnlyStores [] s.hl m [.memRead s.hl v, .memWrite s.hl m] s t) ∧
    ∃ (t : State) (m : Byte), exec (.resAtHl b) s = .next t ∧
      (∀ k : Nat, k < 8 → m.getLsbD k = (decide (k ≠ b.toNat) && v.getLsbD k)) ∧
      OnlyStores [] s.hl m [.memRead s.hl v, .memWrite s.hl m] s t

/-! ### Input and output -/

/-- `IN A,(n)` and `OUT (n),A` (48_io.md R390, R392): `A` is the high half of the port address. -/
def Obligations.PortImmediate : Prop :=
  (∀ (v : Variant) (n : Byte), EncodedAs v (.inAPortN n) [0xDB, n] ∧ EncodedAs v (.outPortNA n) [0xD3, n]) ∧
  (∀ (n : Byte) (s : State), ∃ t : State, exec (.inAPortN n) s = .next t ∧ t.main.a = s.sfrIn ∧
    OnlyReads [.a] [.ioRead (join s.main.a n) s.sfrIn] s t) ∧
  ∀ (n : Byte) (s : State), ∃ t : State, exec (.outPortNA n) s = .next t ∧
    OnlyReads [] [.ioWrite (join s.main.a n) s.main.a] s t

/-- `IN r,(C)` and `OUT (C),r` (R391, R393); ED 70h and ED 71h are no instructions. -/
def Obligations.PortThroughC : Prop :=
  (∀ (v : Variant) (r : Reg8), EncodedAs v (Form.inRPortC r) [0xED, 0x40 ||| regCode r <<< 3] ∧
    EncodedAs v (Form.outPortCR r) [0xED, 0x41 ||| regCode r <<< 3]) ∧
  (∀ (v : Variant) (rest : List Byte), decode v (0xED :: 0x70 :: rest) = .error .undefinedEd ∧
    decode v (0xED :: 0x71 :: rest) = .error .undefinedEd) ∧
  (∀ (r : Reg8) (s : State) (v : Byte), v = s.sfrIn → ∃ t : State, exec (Form.inRPortC r) s = .next t ∧
    t.reg r = v ∧
    t.flags = { s := v.getLsbD 7, z := decide (v.toNat = 0), h := false, pv := evenOnes v, n := false, c := s.flags.c } ∧
    OnlyReads [nameOf r, .f] [.ioRead (join s.main.b s.main.c) v] s t) ∧
  ∀ (r : Reg8) (s : State), ∃ t : State, exec (Form.outPortCR r) s = .next t ∧
    OnlyReads [] [.ioWrite (join s.main.b s.main.c) (s.reg r)] s t

/-- `INI`, `INIR`, `IND`, `INDR`: one pass. That F5 and F3 are bits 5 and 3 of `F` is the spec's decision
D2 (log 17), that one pass is one instruction its decision D19 (log 37). -/
def Obligations.BlockInput : Prop :=
  (∀ v : Variant, EncodedAs v .ini [0xED, 0xA2] ∧ EncodedAs v .inir [0xED, 0xB2] ∧
    EncodedAs v .ind [0xED, 0xAA] ∧ EncodedAs v .indr [0xED, 0xBA]) ∧
  ∀ (i : Instr) (step again : Bool) (s : State) (v : Byte),
    (i, step, again) ∈ [(Instr.ini, true, false), (.inir, true, true), (.ind, false, false), (.indr, false, true)] →
    v = s.sfrIn →
    ∃ t : State, exec i s = .next t ∧
      t.hl = (if step then s.hl + 1 else s.hl - 1) ∧
      t.main.b = s.main.b - 1 ∧
      t.pc = (if again = true ∧ s.main.b ≠ 1 then s.pc - 2 else s.pc) ∧
      t.flags = { s.flags with z := decide (s.main.b = 1), n := true } ∧
      (i = .ini → t.main.f.getLsbD 5 = (s.main.b - 1).getLsbD 5 ∧ t.main.f.getLsbD 3 = (s.main.b - 1).getLsbD 3) ∧
      OnlyStores [.h, .l, .b, .f, .pc] s.hl v
        [.ioRead (join s.main.b s.main.c) v, .memWrite s.hl v] s t

/-- `OUTI`, `OTIR`, `OUTD`, `OTDR`: one pass; the port address has the decremented `B`. That one pass is
one instruction is the spec's decision D19 (log 37). -/
def Obligations.BlockOutput : Prop :=
  (∀ v : Variant, EncodedAs v .outi [0xED, 0xA3] ∧ EncodedAs v .otir [0xED, 0xB3] ∧
    EncodedAs v .outd [0xED, 0xAB] ∧ EncodedAs v .otdr [0xED, 0xBB]) ∧
  ∀ (i : Instr) (step again : Bool) (s : State) (v : Byte),
    (i, step, again) ∈ [(Instr.outi, true, false), (.otir, true, true), (.outd, false, false), (.otdr, false, true)] →
    v = s.memIn s.hl →
    ∃ t : State, exec i s = .next t ∧
      t.hl = (if step then s.hl + 1 else s.hl - 1) ∧
      t.main.b = s.main.b - 1 ∧
      t.pc = (if again = true ∧ s.main.b ≠ 1 then s.pc - 2 else s.pc) ∧
      t.flags = { s.flags with z := decide (s.main.b = 1), n := true } ∧
      OnlyReads [.h, .l, .b, .f, .pc]
        [.memRead s.hl v, .ioWrite (join (s.main.b - 1) s.main.c) v] s t

/-! ### Exchanges, block transfer and search -/

/-- `EX DE,HL`, `EX AF,AF'`, `EXX` (49_exchange_block.md R410 to R412). -/
def Obligations.Exchanges : Prop :=
  (∀ v : Variant, EncodedAs v .exDeHl [0xEB] ∧ EncodedAs v .exAfAf [0x08] ∧ EncodedAs v .exx [0xD9]) ∧
  (∀ s : State, ∃ t : State, exec .exDeHl s = .next t ∧ t.de = s.hl ∧ t.hl = s.de ∧
    OnlyRegs [.d, .e, .h, .l] s t) ∧
  (∀ s : State, ∃ t : State, exec .exAfAf s = .next t ∧
    t.main.a = s.alt.a ∧ t.main.f = s.alt.f ∧ t.alt.a = s.main.a ∧ t.alt.f = s.main.f ∧
    OnlyRegs [.a, .f, .altA, .altF] s t ∧ exec .exAfAf t = .next s) ∧
  ∀ s : State, ∃ t : State, exec .exx s = .next t ∧
    t.main.b = s.alt.b ∧ t.main.c = s.alt.c ∧ t.main.d = s.alt.d ∧ t.main.e = s.alt.e ∧
    t.main.h = s.alt.h ∧ t.main.l = s.alt.l ∧
    t.alt.b = s.main.b ∧ t.alt.c = s.main.c ∧ t.alt.d = s.main.d ∧ t.alt.e = s.main.e ∧
    t.alt.h = s.main.h ∧ t.alt.l = s.main.l ∧
    OnlyRegs [.b, .c, .d, .e, .h, .l, .altB, .altC, .altD, .altE, .altH, .altL] s t

/-- `EX (SP),HL`, `EX (SP),IX`, `EX (SP),IY`. The order of the four accesses and the wrap of `SP` + 1 are
the spec's decisions D22 and D1 (log 28, 16). -/
def Obligations.ExchangeStackTop : Prop :=
  (∀ v : Variant, EncodedAs v .exAtSpHl [0xE3]) ∧
  (∀ (v : Variant) (x : Idx), EncodedAs v (Form.exAtSpXy x) [prefixByte x, 0xE3]) ∧
  ∀ (s : State) (l h : Byte), l = s.memIn s.sp → h = (s.memRead s.sp).memIn (s.sp + 1) →
    (∃ t : State, exec .exAtSpHl s = .next t ∧ t.hl = join h l ∧
      OnlyStoresWord [.h, .l] s.sp s.hl [.memRead s.sp l, .memRead (s.sp + 1) h,
        .memWrite (s.sp + 1) s.main.h, .memWrite s.sp s.main.l] s t) ∧
    ∀ x : Idx, ∃ t : State, exec (Form.exAtSpXy x) s = .next t ∧ t.idx x = join h l ∧
      OnlyStoresWord [idxName x] s.sp (s.idx x) [.memRead s.sp l, .memRead (s.sp + 1) h,
        .memWrite (s.sp + 1) (hi (s.idx x)), .memWrite s.sp (lo (s.idx x))] s t

/-- `LDI`, `LDIR`, `LDD`, `LDDR`: one pass. The C line of `LDI`, P/V after a pass that repeats, and that
one pass is one instruction are the spec's decisions D7, D25 and D19 (log 20, 31, 37). -/
def Obligations.BlockTransfer : Prop :=
  (∀ v : Variant, EncodedAs v .ldi [0xED, 0xA0] ∧ EncodedAs v .ldir [0xED, 0xB0] ∧
    EncodedAs v .ldd [0xED, 0xA8] ∧ EncodedAs v .lddr [0xED, 0xB8]) ∧
  ∀ (i : Instr) (up again : Bool) (s : State) (v : Byte),
    (i, up, again) ∈ [(Instr.ldi, true, false), (.ldir, true, true), (.ldd, false, false), (.lddr, false, true)] →
    v = s.memIn s.hl →
    ∃ t : State, exec i s = .next t ∧
      t.hl = (if up then s.hl + 1 else s.hl - 1) ∧ t.de = (if up then s.de + 1 else s.de - 1) ∧
      t.bc.toNat = (s.bc.toNat + 65535) % 65536 ∧
      t.pc = (if again = true ∧ s.bc.toNat ≠ 1 then s.pc - 2 else s.pc) ∧
      t.flags = { s.flags with h := false, pv := decide (s.bc.toNat ≠ 1), n := false } ∧
      OnlyStores [.h, .l, .d, .e, .b, .c, .f, .pc] s.de v [.memRead s.hl v, .memWrite s.de v] s t

/-- `CPI`, `CPIR`, `CPD`, `CPDR`: one pass. The C line of `CPDR`, the half-carry, and that one pass is one
instruction are the spec's decisions D7, D23 and D19 (log 20, 19, 37). -/
def Obligations.BlockSearch : Prop :=
  (∀ v : Variant, EncodedAs v .cpi [0xED, 0xA1] ∧ EncodedAs v .cpir [0xED, 0xB1] ∧
    EncodedAs v .cpd [0xED, 0xA9] ∧ EncodedAs v .cpdr [0xED, 0xB9]) ∧
  ∀ (i : Instr) (up again : Bool) (s : State) (v : Byte),
    (i, up, again) ∈ [(Instr.cpi, true, false), (.cpir, true, true), (.cpd, false, false), (.cpdr, false, true)] →
    v = s.memIn s.hl →
    ∃ t : State, exec i s = .next t ∧
      t.hl = (if up then s.hl + 1 else s.hl - 1) ∧
      t.bc.toNat = (s.bc.toNat + 65535) % 65536 ∧
      t.pc = (if again = true ∧ s.bc.toNat ≠ 1 ∧ s.main.a ≠ v then s.pc - 2 else s.pc) ∧
      t.flags = { s := (s.main.a - v).getLsbD 7, z := decide (s.main.a = v), h := decide (s.main.a.toNat % 16 < v.toNat % 16), pv := decide (s.bc.toNat ≠ 1), n := true, c := s.flags.c } ∧
      OnlyReads [.h, .l, .b, .c, .f, .pc] [.memRead s.hl v] s t

/-! ### Interrupts, halt, bus request, reset -/

/-- `NMI` and `RETN`: acceptance at a boundary without reset, bus request or debug stop, whatever `IFF1`,
`INT` and the `EI` shadow are; and `RETN` afterwards, on a stack in RAM, restores `pc`, `SP` and `IFF1`.
The edge latch, the shadow and the wrap of `SP` are the spec's decisions D13, D16 and D1 (log 23, 24, 16). -/
def Obligations.NonMaskableEntryAndReturn : Prop :=
  (∀ v : Variant, EncodedAs v .retn [0xED, 0x45]) ∧
  (∀ (s : State) (l h : Byte), l = s.memIn s.sp → h = (s.memRead s.sp).memIn (s.sp + 1) →
    ∃ t : State, exec .retn s = .next t ∧ t.pc = join h l ∧ t.sp = s.sp + 2 ∧ t.iff1 = s.iff2 ∧
      OnlyReads [.sp, .pc, .iff1] [.memRead s.sp l, .memRead (s.sp + 1) h] s t) ∧
  ∀ s : State, s.reachesInterrupts →
    (s.nmiPending = true ∨ s.boundary.nmiEdge = true) →
    ∃ t : State, step s = .next t ∧ t.pc = 0x0066 ∧ t.sp = s.sp - 2 ∧ t.iff1 = false ∧ t.iff2 = s.iff1 ∧
      t.halted = false ∧ t.nmiPending = false ∧ t.eiShadow = false ∧
      SameRegsBut [.pc, .sp, .iff1, .iff2] s t ∧ StoresWord s t (s.sp - 2) s.pc ∧
      Accesses s t [.nmiCycle s.pc, .memWrite (s.sp - 1) (hi s.pc), .memWrite (s.sp - 2) (lo s.pc)] ∧
      (s.kindAt (s.sp - 1) = .ram → s.kindAt (s.sp - 2) = .ram → ∃ u : State,
        exec .retn t = .next u ∧ u.pc = s.pc ∧ u.sp = s.sp ∧ u.iff1 = s.iff1)

/-- A maskable interrupt in modes 1 and 2 (60_exceptions.md, modes 1 and 2). That `pc` is pushed, what the
acknowledge cycle does to `IFF2`, how mode 2 forms the address, and the wrap of `SP` and of the table address
are the spec's decisions D8, D10, D9 and D1 (log 25, 3, 2, 16). That the two reads of the indirect form come
low byte first and after the push is "as on the Zilog Z80", a sentence the spec marks as general knowledge
(log 41). -/
def Obligations.MaskableInterruptEntry : Prop :=
  ∀ (s : State) (v : Byte) (saved : List BusEvent), s.acceptsInt → v = s.sfrIn →
    saved = [.intAck s.pc v, .memWrite (s.sp - 1) (hi s.pc), .memWrite (s.sp - 2) (lo s.pc)] →
    s.im ≠ .im0 →
    ∃ t : State, step s = .next t ∧ t.sp = s.sp - 2 ∧ t.iff1 = false ∧
      t.iff2 = (s.iff2 && !s.platform.intAckClearsIFF2) ∧ t.halted = false ∧ t.eiShadow = false ∧
      SameRegsBut [.pc, .sp, .iff1, .iff2] s t ∧ StoresWord s t (s.sp - 2) s.pc ∧
      (s.im = .im1 → t.pc = 0x0038 ∧ Accesses s t saved) ∧
      (s.im = .im2 → s.platform.im2Vector = .direct → t.pc = join s.ireg v ∧ Accesses s t saved) ∧
      (s.im = .im2 → s.platform.im2Vector = .indirect →
        ∃ l h : Byte, t.pc = join h l ∧
          Accesses s t (saved ++ [.memRead (join s.ireg v) l, .memRead (join s.ireg v + 1) h]) ∧
          (holdsData (s.kindAt (join s.ireg v)) = true → l = t.peek (join s.ireg v)) ∧
          (holdsData (s.kindAt (join s.ireg v + 1)) = true → h = t.peek (join s.ireg v + 1)))

/-- A maskable interrupt in mode 0: a one-byte instruction runs on the state in which the acknowledge cycle and
the interrupt bookkeeping happened and nothing else, with `pc` held; `RST p` pushes `pc`; 64h on the TSK80A_D
stops the processor with `pc` unchanged; the first byte of a longer instruction stops the model. Holding `pc`,
the stop of the model, 64h, `IFF2` and the wrap of `SP` are the spec's decisions D8, D11, D17, D10 and D1
(log 25, 22, 27, 3, 16). -/
def Obligations.Mode0RunsDeviceInstruction : Prop :=
  ∀ (s : State) (v : Byte), s.acceptsInt → s.im = .im0 → v = s.sfrIn →
    (s.platform.variant = .tsk80aD → v = 0x64 → step s = .next { s.acknowledged with debugStopped := true }) ∧
    ∀ (i : Instr) (more : List Byte), wellFormed s.platform.variant i = true → encode i = v :: more →
      i ≠ .breakpoint64 →
      (more = [] → step s = exec i s.acknowledged) ∧
      (∀ p : Byte, i = .rstP p → ∃ t : State, step s = .next t ∧ t.pc = join 0 p ∧ t.sp = s.sp - 2 ∧
        t.iff1 = false ∧ SameRegsBut [.pc, .sp, .iff1, .iff2] s t ∧ StoresWord s t (s.sp - 2) s.pc) ∧
      (more ≠ [] → step s = .fault .mode0MultiByte)

/-- A granted bus, a bus request, and the halt state: the inputs of the boundary are taken, the bus grant is
updated, and nothing else changes; no access is made. While the bus is granted, the bytes another master writes
arrive. An edge of `NMI` is kept (decision D13, log 23); the bus is granted at a boundary only (D14, log 14);
the writes are inputs, and only RAM takes them (log 13). -/
def Obligations.BusGrantAndHaltIdle : Prop :=
  ∀ s : State, s.boundary.rst = false →
    (s.platform.variant = .tsk80aD → s.debugStopped = false ∧ s.boundary.debugStopRequest = false) →
    ∃ u : State, InputsTaken s u ∧
      (s.busGranted = true → step s = .next { u with busGranted := s.boundary.req }) ∧
      (s.busGranted = false → s.boundary.req = true → step s = .next { u with busGranted := true }) ∧
      (s.busGranted = false → s.boundary.req = false → s.nmiPending = false → s.boundary.nmiEdge = false →
        s.boundary.int = false ∨ s.iff1 = false ∨ s.eiShadow = true → s.halted = true → step s = .next u)

/-- The debug host of the TSK80A_D: a stop request, and each command of a stopped processor's host. Every clause
starts from the state in which the inputs of the boundary were taken: an edge of `NMI` is kept, another master
that has the bus may write. That the host acts in turns of one command, and where its stop comes in the order of
events, are the spec's decision D21 and the model's choice (log 12); what `debug_stopped` is after its reset is
its own (D15, log 10); that a command of its own ends the halt state is the model's choice (log 40). -/
def Obligations.DebugHostTurns : Prop :=
  ∀ s : State, s.platform.variant = .tsk80aD → s.boundary.rst = false → ∃ u : State, InputsTaken s u ∧
    (s.debugStopped = false → s.boundary.debugStopRequest = true → step s = .next { u with debugStopped := true }) ∧
    (s.debugStopped = true →
      (s.boundary.host = .idle → step s = .next u) ∧
      (s.boundary.host = .resume → step s = .next { u with debugStopped := false }) ∧
      (s.boundary.host = .leaveHalt → step s = .next { u with halted := false }) ∧
      (∀ r : HostRegs, s.boundary.host = .setRegs r → step s = .next { u with
        main := r.main, alt := r.alt, ix := r.ix, iy := r.iy, sp := r.sp, pc := r.pc, ireg := r.ireg,
        iff1 := r.iff1, iff2 := r.iff2, im := r.im }) ∧
      (∀ a : Word, s.boundary.host = .readMem a → ∃ t : State, step s = .next t ∧
        OnlyReads [] [.memRead a (u.memIn a)] u t) ∧
      (∀ (a : Word) (v : Byte), s.boundary.host = .writeMem a v → ∃ t : State, step s = .next t ∧
        OnlyStores [] a v [.memWrite a v] u t) ∧
      (∀ p : Word, s.boundary.host = .readPort p → ∃ t : State, step s = .next t ∧
        OnlyReads [] [.ioRead p u.sfrIn] u t) ∧
      (∀ (p : Word) (v : Byte), s.boundary.host = .writePort p v → ∃ t : State, step s = .next t ∧
        OnlyReads [] [.ioWrite p v] u t) ∧
      (s.boundary.host = .reset → ∃ t : State, step s = .next t ∧ WasReset u t ∧
        t.debugStopped = s.boundary.stopAfterReset) ∧
      (s.boundary.host = .singleStep →
        (∀ t : State, step { s with debugStopped := false } = .next t →
          step s = .next { t with debugStopped := true }) ∧
        ∀ e : Fault, step { s with debugStopped := false } = .fault e → step s = .fault e))

/-- Reset, and `State.reset` itself: every register, flip-flop and flag is zero; memory, as another master that
had the bus left it, the platform and the inputs to come are left alone. The alternative set and the hidden bits
are the spec's decision D15 (log 29), sampling `RST` at a boundary its decision D26 (log 30), and
`debug_stopped` afterwards is an input (D15, log 10). -/
def Obligations.ResetLeavesZero : Prop :=
  (∀ n : RegName, State.reset.readReg n = 0) ∧
  (State.reset.eiShadow = false ∧ State.reset.nmiPending = false ∧ State.reset.halted = false ∧
    State.reset.busGranted = false) ∧
  ∀ s : State, s.boundary.rst = true → ∃ u t : State, InputsTaken s u ∧ step s = .next t ∧ WasReset u t ∧
    (s.platform.variant = .tsk80aD → t.debugStopped = s.boundary.stopAfterReset) ∧
    (s.platform.variant = .tsk80a → t.debugStopped = false)

/-! ### Memory, decoding, the step -/

/-- Read after write: RAM answers the byte written last, and a store changes no other byte; ROM, absent
memory and a device keep what they held (20_memory.md, `MemMap`; decisions D18 and D24, log 38, 4). A store
keeps the memory list in its canonical form. -/
def Obligations.MemoryReadAfterWrite : Prop :=
  ∀ (s : State) (a : Word) (v : Byte),
    (s.kindAt a = .ram → (s.memWrite a v).memIn a = v) ∧
    (s.kindAt a ≠ .ram → (s.memWrite a v).peek a = s.peek a) ∧
    (∀ x : Word, x ≠ a → (s.memWrite a v).peek x = s.peek x) ∧
    (∀ x : Word, s.kindAt x = .ram ∨ s.kindAt x = .rom → s.memIn x = s.peek x) ∧
    (Memory.wf s.mem = true → Memory.wf (s.memWrite a v).mem = true)

/-- The decoder reads back what the encoder writes, for every instruction of the family member, with every
operand value, whatever bytes follow. -/
def Obligations.DecodeOfEncode : Prop :=
  ∀ (v : Variant) (i : Instr) (rest : List Byte), wellFormed v i = true →
    decode v (encode i ++ rest) = .ok (i, rest)

/-- Every step keeps the invariant: the memory list is canonical, and a TSK80A is never stopped by a debug
unit. -/
def Obligations.StepKeepsInvariant : Prop :=
  ∀ s t : State, s.Inv → step s = .next t → t.Inv

/-- The reset state has the invariant, and no debug host holds it. The form of the memory list and
`debug_stopped` of `State.reset`, a TSK80A_D, are the model's choices (log 5, 10, 1). -/
def Obligations.InvariantAtReset : Prop := State.reset.Inv ∧ State.reset.debugStopped = false

/-- A step at an ordinary boundary runs the instruction that the bytes at `pc` decode to, on the state in which
`pc` is past exactly its bytes, each of them was read once, in order, and nothing else happened; bytes that
decode to no instruction stop the model with the fault named after their map. That the `EI` shadow ends when the
instruction starts, that `pc` and the code wrap at FFFFh, that the bytes are read in ascending order before the
instruction acts, and the fault are the spec's decisions D16, D1, D22 and D4 (log 24, 16, 28, 21). -/
def Obligations.StepRunsDecodedInstruction : Prop :=
  ∀ (s : State) (bytes : List Byte), s.undisturbed →
    bytes = [s.peek s.pc, s.peek (s.pc + 1), s.peek (s.pc + 2), s.peek (s.pc + 3)] →
    (∀ k : Nat, k < 4 → holdsData (s.kindAt (s.pc + BitVec.ofNat 16 k)) = true) →
    (∀ (i : Instr) (rest : List Byte), decode s.platform.variant bytes = .ok (i, rest) →
      ∃ (t : State) (events : List BusEvent), step s = exec i t ∧
        t.pc = s.pc + BitVec.ofNat 16 (4 - rest.length) ∧ SameRegsBut [.pc] s t ∧
        t.eiShadow = false ∧ t.nmiPending = false ∧ t.halted = false ∧ t.busGranted = false ∧
        t.debugStopped = s.debugStopped ∧ t.platform = s.platform ∧
        t.debugEnable = s.boundary.debugEnable.getD s.debugEnable ∧ t.inputs = s.inputs.tail ∧
        t.mem = s.mem ∧ t.memDataIn = s.memDataIn ∧ t.sfrDataIn = s.sfrDataIn ∧ t.draws = s.draws ∧
        Accesses s t events ∧ events.length = 4 - rest.length ∧
        ∀ (k : Nat) (e : BusEvent), events[k]? = some e →
          readsCode e (s.pc + BitVec.ofNat 16 k) (s.peek (s.pc + BitVec.ofNat 16 k))) ∧
    ∀ (e : DecodeError) (f : Fault),
      (e, f) ∈ [(DecodeError.undefinedCb, Fault.undefinedCb), (.undefinedEd, .undefinedEd),
        (.undefinedIndexed, .undefinedIndexed), (.undefinedIndexedCb, .undefinedIndexedCb)] →
      decode s.platform.variant bytes = .error e → step s = .fault f

/-- Every instruction completes in every state, `TRAP` on a TSK80A apart; no step is refused, and no step
ends for want of instruction bytes. -/
def Obligations.EveryInstructionCompletes : Prop :=
  (∀ (i : Instr) (s : State), (i = .trap → s.platform.variant = .tsk80aD) → Completes (exec i s)) ∧
  (∀ (s : State) (r : Refusal), step s ≠ .refused r) ∧
  ∀ s : State, step s ≠ .fault .decodeTruncated

/-- A few words of each map and what they decode to: `LD A,20h`, `ADD HL,BC`, `RLC B`, `BIT 7,(HL)`,
`LD (0400h),BC`, `LDIR`, `LD IX,1234h`, `SET 7,(IY-128)`; and undefined encodings of each map. -/
def Obligations.DecodeWords : Prop :=
  decode .tsk80a [0x3E, 0x20] = .ok (.ldAN 0x20, []) ∧ decode .tsk80a [0x09] = .ok (.addHlPp .bc, []) ∧
  decode .tsk80a [0xCB, 0x00] = .ok (.rlcB, []) ∧ decode .tsk80a [0xCB, 0x7E] = .ok (.bitAtHl 7, []) ∧
  decode .tsk80a [0xED, 0x43, 0x00, 0x04] = .ok (.ldAtNnPp 0x0400 .bc, []) ∧
  decode .tsk80a [0xED, 0xB0] = .ok (.ldir, []) ∧
  decode .tsk80a [0xDD, 0x21, 0x34, 0x12] = .ok (.ldIxNn 0x1234, []) ∧
  decode .tsk80a [0xFD, 0xCB, 0x80, 0xFE] = .ok (.setAtIyd 7 0x80, []) ∧
  decode .tsk80a [0xCB, 0x30] = .error .undefinedCb ∧ decode .tsk80a [0xED, 0x4F] = .error .undefinedEd ∧
  decode .tsk80a [0xDD, 0x24] = .error .undefinedIndexed ∧
  decode .tsk80a [0xDD, 0xCB, 0x00, 0x36] = .error .undefinedIndexedCb

/-- Which instructions write what (10_state.md, the state and control tables): the alternative set is
reached by `EX AF,AF'` and `EXX` only, `I` by `LD I,A` only, `IM` by `IM 0`, `IM 1`, `IM 2` only, the
flip-flops by `EI`, `DI` and `RETN` only, `halted` by `HALT`, the shadow by `EI`, and `pc` by the listed
instructions only. No instruction touches the latch of `NMI`, the bus grant, the platform or the inputs to
come. -/
def Obligations.OnlyNamedInstructionsWriteControlState : Prop :=
  ∀ (i : Instr) (s t : State), exec i s = .next t →
    (t.alt = s.alt ∨ i = .exAfAf ∨ i = .exx) ∧
    (t.ireg = s.ireg ∨ i = .ldIA) ∧
    (t.im = s.im ∨ i = .im0 ∨ i = .im1 ∨ i = .im2) ∧
    (t.iff1 = s.iff1 ∨ i = .ei ∨ i = .di ∨ i = .retn) ∧
    (t.iff2 = s.iff2 ∨ i = .ei ∨ i = .di) ∧
    (t.halted = s.halted ∨ i = .halt) ∧
    (t.eiShadow = s.eiShadow ∨ i = .ei) ∧
    (t.debugStopped = s.debugStopped ∨ i = .trap ∨ i = .breakpoint64) ∧
    (t.pc = s.pc ∨ writesPc i = true) ∧
    t.nmiPending = s.nmiPending ∧ t.busGranted = s.busGranted ∧ t.platform = s.platform ∧
    t.debugEnable = s.debugEnable ∧ t.inputs = s.inputs

end
end

