-- ==== Sys2Proof/Laws/Bits.lean ====
section
/-! SUPPORT. Laws of the bit operations and of the byte of flags. -/

namespace Sys2Proof

theorem hi_toNat (w : Word) : (hi w).toNat = w.toNat / 256 % 256 := by
  simp [hi, BitVec.extractLsb'_toNat, Nat.shiftRight_eq_div_pow]

theorem lo_toNat (w : Word) : (lo w).toNat = w.toNat % 256 := by
  simp [lo, BitVec.extractLsb'_toNat]

theorem join_toNat (h l : Byte) : (join h l).toNat = 256 * h.toNat + l.toNat := by
  simp only [join, BitVec.toNat_append]
  rw [Nat.shiftLeft_eq, Nat.mul_comm, ← Nat.two_pow_add_eq_or_of_lt (i := 8) l.isLt h.toNat]

@[simp] theorem join_hi_lo (w : Word) : join (hi w) (lo w) = w := by
  apply BitVec.eq_of_toNat_eq
  rw [join_toNat, hi_toNat, lo_toNat]
  have := w.isLt
  omega

@[simp] theorem hi_join (h l : Byte) : hi (join h l) = h := by
  apply BitVec.eq_of_toNat_eq
  rw [hi_toNat, join_toNat]
  have := h.isLt
  have := l.isLt
  omega

@[simp] theorem lo_join (h l : Byte) : lo (join h l) = l := by
  apply BitVec.eq_of_toNat_eq
  rw [lo_toNat, join_toNat]
  have := l.isLt
  omega

namespace Machine

@[simp] theorem ofByte_pack (fl : Flags) (f5 f3 : Bool) : Flags.ofByte (fl.pack f5 f3) = fl := by
  obtain ⟨s, z, h, pv, n, c⟩ := fl
  revert s z h pv n c f5 f3
  decide

/-- Bits 5 and 3 of a packed byte of flags. -/
theorem pack_bits (fl : Flags) (f5 f3 : Bool) :
    (fl.pack f5 f3).getLsbD 5 = f5 ∧ (fl.pack f5 f3).getLsbD 3 = f3 := by
  obtain ⟨s, z, h, pv, n, c⟩ := fl
  revert s z h pv n c f5 f3
  decide

end Machine

end Sys2Proof
end

