-- ==== Sys2Proof/Laws/State.lean ====
section
/-! SUPPORT. One lemma for each field that an operation leaves alone, so that no proof unfolds a record
update; and what reading sees after a change of something else. -/

namespace Sys2Proof.Machine

/-! ### `setReg` -/

@[simp] theorem setReg_alt (s : State) (r : Reg8) (v : Byte) : (s.setReg r v).alt = s.alt := by cases r <;> rfl
@[simp] theorem setReg_ix (s : State) (r : Reg8) (v : Byte) : (s.setReg r v).ix = s.ix := by cases r <;> rfl
@[simp] theorem setReg_iy (s : State) (r : Reg8) (v : Byte) : (s.setReg r v).iy = s.iy := by cases r <;> rfl
@[simp] theorem setReg_sp (s : State) (r : Reg8) (v : Byte) : (s.setReg r v).sp = s.sp := by cases r <;> rfl
@[simp] theorem setReg_pc (s : State) (r : Reg8) (v : Byte) : (s.setReg r v).pc = s.pc := by cases r <;> rfl
@[simp] theorem setReg_ireg (s : State) (r : Reg8) (v : Byte) : (s.setReg r v).ireg = s.ireg := by cases r <;> rfl
@[simp] theorem setReg_iff1 (s : State) (r : Reg8) (v : Byte) : (s.setReg r v).iff1 = s.iff1 := by cases r <;> rfl
@[simp] theorem setReg_iff2 (s : State) (r : Reg8) (v : Byte) : (s.setReg r v).iff2 = s.iff2 := by cases r <;> rfl
@[simp] theorem setReg_im (s : State) (r : Reg8) (v : Byte) : (s.setReg r v).im = s.im := by cases r <;> rfl
@[simp] theorem setReg_eiShadow (s : State) (r : Reg8) (v : Byte) : (s.setReg r v).eiShadow = s.eiShadow := by cases r <;> rfl
@[simp] theorem setReg_nmiPending (s : State) (r : Reg8) (v : Byte) : (s.setReg r v).nmiPending = s.nmiPending := by cases r <;> rfl
@[simp] theorem setReg_halted (s : State) (r : Reg8) (v : Byte) : (s.setReg r v).halted = s.halted := by cases r <;> rfl
@[simp] theorem setReg_busGranted (s : State) (r : Reg8) (v : Byte) : (s.setReg r v).busGranted = s.busGranted := by cases r <;> rfl
@[simp] theorem setReg_debugStopped (s : State) (r : Reg8) (v : Byte) : (s.setReg r v).debugStopped = s.debugStopped := by cases r <;> rfl
@[simp] theorem setReg_mem (s : State) (r : Reg8) (v : Byte) : (s.setReg r v).mem = s.mem := by cases r <;> rfl
@[simp] theorem setReg_platform (s : State) (r : Reg8) (v : Byte) : (s.setReg r v).platform = s.platform := by cases r <;> rfl
@[simp] theorem setReg_debugEnable (s : State) (r : Reg8) (v : Byte) : (s.setReg r v).debugEnable = s.debugEnable := by cases r <;> rfl
@[simp] theorem setReg_inputs (s : State) (r : Reg8) (v : Byte) : (s.setReg r v).inputs = s.inputs := by cases r <;> rfl
@[simp] theorem setReg_memDataIn (s : State) (r : Reg8) (v : Byte) : (s.setReg r v).memDataIn = s.memDataIn := by cases r <;> rfl
@[simp] theorem setReg_sfrDataIn (s : State) (r : Reg8) (v : Byte) : (s.setReg r v).sfrDataIn = s.sfrDataIn := by cases r <;> rfl
@[simp] theorem setReg_bus (s : State) (r : Reg8) (v : Byte) : (s.setReg r v).bus = s.bus := by cases r <;> rfl
@[simp] theorem setReg_draws (s : State) (r : Reg8) (v : Byte) : (s.setReg r v).draws = s.draws := by cases r <;> rfl
@[simp] theorem setReg_kindAt (s : State) (r : Reg8) (v : Byte) (y : Word) : (s.setReg r v).kindAt y = s.kindAt y := by
  simp [State.kindAt]
@[simp] theorem setReg_peek (s : State) (r : Reg8) (v : Byte) (y : Word) : (s.setReg r v).peek y = s.peek y := by
  simp [State.peek]
@[simp] theorem setReg_memIn (s : State) (r : Reg8) (v : Byte) (y : Word) : (s.setReg r v).memIn y = s.memIn y := by
  simp [State.memIn]
@[simp] theorem setReg_sfrIn (s : State) (r : Reg8) (v : Byte) : (s.setReg r v).sfrIn = s.sfrIn := by
  simp [State.sfrIn]

/-! ### `setBc` -/

@[simp] theorem setBc_alt (s : State) (w : Word) : (s.setBc w).alt = s.alt := rfl
@[simp] theorem setBc_ix (s : State) (w : Word) : (s.setBc w).ix = s.ix := rfl
@[simp] theorem setBc_iy (s : State) (w : Word) : (s.setBc w).iy = s.iy := rfl
@[simp] theorem setBc_sp (s : State) (w : Word) : (s.setBc w).sp = s.sp := rfl
@[simp] theorem setBc_pc (s : State) (w : Word) : (s.setBc w).pc = s.pc := rfl
@[simp] theorem setBc_ireg (s : State) (w : Word) : (s.setBc w).ireg = s.ireg := rfl
@[simp] theorem setBc_iff1 (s : State) (w : Word) : (s.setBc w).iff1 = s.iff1 := rfl
@[simp] theorem setBc_iff2 (s : State) (w : Word) : (s.setBc w).iff2 = s.iff2 := rfl
@[simp] theorem setBc_im (s : State) (w : Word) : (s.setBc w).im = s.im := rfl
@[simp] theorem setBc_eiShadow (s : State) (w : Word) : (s.setBc w).eiShadow = s.eiShadow := rfl
@[simp] theorem setBc_nmiPending (s : State) (w : Word) : (s.setBc w).nmiPending = s.nmiPending := rfl
@[simp] theorem setBc_halted (s : State) (w : Word) : (s.setBc w).halted = s.halted := rfl
@[simp] theorem setBc_busGranted (s : State) (w : Word) : (s.setBc w).busGranted = s.busGranted := rfl
@[simp] theorem setBc_debugStopped (s : State) (w : Word) : (s.setBc w).debugStopped = s.debugStopped := rfl
@[simp] theorem setBc_mem (s : State) (w : Word) : (s.setBc w).mem = s.mem := rfl
@[simp] theorem setBc_platform (s : State) (w : Word) : (s.setBc w).platform = s.platform := rfl
@[simp] theorem setBc_debugEnable (s : State) (w : Word) : (s.setBc w).debugEnable = s.debugEnable := rfl
@[simp] theorem setBc_inputs (s : State) (w : Word) : (s.setBc w).inputs = s.inputs := rfl
@[simp] theorem setBc_memDataIn (s : State) (w : Word) : (s.setBc w).memDataIn = s.memDataIn := rfl
@[simp] theorem setBc_sfrDataIn (s : State) (w : Word) : (s.setBc w).sfrDataIn = s.sfrDataIn := rfl
@[simp] theorem setBc_bus (s : State) (w : Word) : (s.setBc w).bus = s.bus := rfl
@[simp] theorem setBc_draws (s : State) (w : Word) : (s.setBc w).draws = s.draws := rfl
@[simp] theorem setBc_kindAt (s : State) (w : Word) (y : Word) : (s.setBc w).kindAt y = s.kindAt y := by
  simp [State.kindAt]
@[simp] theorem setBc_peek (s : State) (w : Word) (y : Word) : (s.setBc w).peek y = s.peek y := by
  simp [State.peek]
@[simp] theorem setBc_memIn (s : State) (w : Word) (y : Word) : (s.setBc w).memIn y = s.memIn y := by
  simp [State.memIn]
@[simp] theorem setBc_sfrIn (s : State) (w : Word) : (s.setBc w).sfrIn = s.sfrIn := by
  simp [State.sfrIn]

/-! ### `setDe` -/

@[simp] theorem setDe_alt (s : State) (w : Word) : (s.setDe w).alt = s.alt := rfl
@[simp] theorem setDe_ix (s : State) (w : Word) : (s.setDe w).ix = s.ix := rfl
@[simp] theorem setDe_iy (s : State) (w : Word) : (s.setDe w).iy = s.iy := rfl
@[simp] theorem setDe_sp (s : State) (w : Word) : (s.setDe w).sp = s.sp := rfl
@[simp] theorem setDe_pc (s : State) (w : Word) : (s.setDe w).pc = s.pc := rfl
@[simp] theorem setDe_ireg (s : State) (w : Word) : (s.setDe w).ireg = s.ireg := rfl
@[simp] theorem setDe_iff1 (s : State) (w : Word) : (s.setDe w).iff1 = s.iff1 := rfl
@[simp] theorem setDe_iff2 (s : State) (w : Word) : (s.setDe w).iff2 = s.iff2 := rfl
@[simp] theorem setDe_im (s : State) (w : Word) : (s.setDe w).im = s.im := rfl
@[simp] theorem setDe_eiShadow (s : State) (w : Word) : (s.setDe w).eiShadow = s.eiShadow := rfl
@[simp] theorem setDe_nmiPending (s : State) (w : Word) : (s.setDe w).nmiPending = s.nmiPending := rfl
@[simp] theorem setDe_halted (s : State) (w : Word) : (s.setDe w).halted = s.halted := rfl
@[simp] theorem setDe_busGranted (s : State) (w : Word) : (s.setDe w).busGranted = s.busGranted := rfl
@[simp] theorem setDe_debugStopped (s : State) (w : Word) : (s.setDe w).debugStopped = s.debugStopped := rfl
@[simp] theorem setDe_mem (s : State) (w : Word) : (s.setDe w).mem = s.mem := rfl
@[simp] theorem setDe_platform (s : State) (w : Word) : (s.setDe w).platform = s.platform := rfl
@[simp] theorem setDe_debugEnable (s : State) (w : Word) : (s.setDe w).debugEnable = s.debugEnable := rfl
@[simp] theorem setDe_inputs (s : State) (w : Word) : (s.setDe w).inputs = s.inputs := rfl
@[simp] theorem setDe_memDataIn (s : State) (w : Word) : (s.setDe w).memDataIn = s.memDataIn := rfl
@[simp] theorem setDe_sfrDataIn (s : State) (w : Word) : (s.setDe w).sfrDataIn = s.sfrDataIn := rfl
@[simp] theorem setDe_bus (s : State) (w : Word) : (s.setDe w).bus = s.bus := rfl
@[simp] theorem setDe_draws (s : State) (w : Word) : (s.setDe w).draws = s.draws := rfl
@[simp] theorem setDe_kindAt (s : State) (w : Word) (y : Word) : (s.setDe w).kindAt y = s.kindAt y := by
  simp [State.kindAt]
@[simp] theorem setDe_peek (s : State) (w : Word) (y : Word) : (s.setDe w).peek y = s.peek y := by
  simp [State.peek]
@[simp] theorem setDe_memIn (s : State) (w : Word) (y : Word) : (s.setDe w).memIn y = s.memIn y := by
  simp [State.memIn]
@[simp] theorem setDe_sfrIn (s : State) (w : Word) : (s.setDe w).sfrIn = s.sfrIn := by
  simp [State.sfrIn]

/-! ### `setHl` -/

@[simp] theorem setHl_alt (s : State) (w : Word) : (s.setHl w).alt = s.alt := rfl
@[simp] theorem setHl_ix (s : State) (w : Word) : (s.setHl w).ix = s.ix := rfl
@[simp] theorem setHl_iy (s : State) (w : Word) : (s.setHl w).iy = s.iy := rfl
@[simp] theorem setHl_sp (s : State) (w : Word) : (s.setHl w).sp = s.sp := rfl
@[simp] theorem setHl_pc (s : State) (w : Word) : (s.setHl w).pc = s.pc := rfl
@[simp] theorem setHl_ireg (s : State) (w : Word) : (s.setHl w).ireg = s.ireg := rfl
@[simp] theorem setHl_iff1 (s : State) (w : Word) : (s.setHl w).iff1 = s.iff1 := rfl
@[simp] theorem setHl_iff2 (s : State) (w : Word) : (s.setHl w).iff2 = s.iff2 := rfl
@[simp] theorem setHl_im (s : State) (w : Word) : (s.setHl w).im = s.im := rfl
@[simp] theorem setHl_eiShadow (s : State) (w : Word) : (s.setHl w).eiShadow = s.eiShadow := rfl
@[simp] theorem setHl_nmiPending (s : State) (w : Word) : (s.setHl w).nmiPending = s.nmiPending := rfl
@[simp] theorem setHl_halted (s : State) (w : Word) : (s.setHl w).halted = s.halted := rfl
@[simp] theorem setHl_busGranted (s : State) (w : Word) : (s.setHl w).busGranted = s.busGranted := rfl
@[simp] theorem setHl_debugStopped (s : State) (w : Word) : (s.setHl w).debugStopped = s.debugStopped := rfl
@[simp] theorem setHl_mem (s : State) (w : Word) : (s.setHl w).mem = s.mem := rfl
@[simp] theorem setHl_platform (s : State) (w : Word) : (s.setHl w).platform = s.platform := rfl
@[simp] theorem setHl_debugEnable (s : State) (w : Word) : (s.setHl w).debugEnable = s.debugEnable := rfl
@[simp] theorem setHl_inputs (s : State) (w : Word) : (s.setHl w).inputs = s.inputs := rfl
@[simp] theorem setHl_memDataIn (s : State) (w : Word) : (s.setHl w).memDataIn = s.memDataIn := rfl
@[simp] theorem setHl_sfrDataIn (s : State) (w : Word) : (s.setHl w).sfrDataIn = s.sfrDataIn := rfl
@[simp] theorem setHl_bus (s : State) (w : Word) : (s.setHl w).bus = s.bus := rfl
@[simp] theorem setHl_draws (s : State) (w : Word) : (s.setHl w).draws = s.draws := rfl
@[simp] theorem setHl_kindAt (s : State) (w : Word) (y : Word) : (s.setHl w).kindAt y = s.kindAt y := by
  simp [State.kindAt]
@[simp] theorem setHl_peek (s : State) (w : Word) (y : Word) : (s.setHl w).peek y = s.peek y := by
  simp [State.peek]
@[simp] theorem setHl_memIn (s : State) (w : Word) (y : Word) : (s.setHl w).memIn y = s.memIn y := by
  simp [State.memIn]
@[simp] theorem setHl_sfrIn (s : State) (w : Word) : (s.setHl w).sfrIn = s.sfrIn := by
  simp [State.sfrIn]

/-! ### `setAf` -/

@[simp] theorem setAf_alt (s : State) (w : Word) : (s.setAf w).alt = s.alt := rfl
@[simp] theorem setAf_ix (s : State) (w : Word) : (s.setAf w).ix = s.ix := rfl
@[simp] theorem setAf_iy (s : State) (w : Word) : (s.setAf w).iy = s.iy := rfl
@[simp] theorem setAf_sp (s : State) (w : Word) : (s.setAf w).sp = s.sp := rfl
@[simp] theorem setAf_pc (s : State) (w : Word) : (s.setAf w).pc = s.pc := rfl
@[simp] theorem setAf_ireg (s : State) (w : Word) : (s.setAf w).ireg = s.ireg := rfl
@[simp] theorem setAf_iff1 (s : State) (w : Word) : (s.setAf w).iff1 = s.iff1 := rfl
@[simp] theorem setAf_iff2 (s : State) (w : Word) : (s.setAf w).iff2 = s.iff2 := rfl
@[simp] theorem setAf_im (s : State) (w : Word) : (s.setAf w).im = s.im := rfl
@[simp] theorem setAf_eiShadow (s : State) (w : Word) : (s.setAf w).eiShadow = s.eiShadow := rfl
@[simp] theorem setAf_nmiPending (s : State) (w : Word) : (s.setAf w).nmiPending = s.nmiPending := rfl
@[simp] theorem setAf_halted (s : State) (w : Word) : (s.setAf w).halted = s.halted := rfl
@[simp] theorem setAf_busGranted (s : State) (w : Word) : (s.setAf w).busGranted = s.busGranted := rfl
@[simp] theorem setAf_debugStopped (s : State) (w : Word) : (s.setAf w).debugStopped = s.debugStopped := rfl
@[simp] theorem setAf_mem (s : State) (w : Word) : (s.setAf w).mem = s.mem := rfl
@[simp] theorem setAf_platform (s : State) (w : Word) : (s.setAf w).platform = s.platform := rfl
@[simp] theorem setAf_debugEnable (s : State) (w : Word) : (s.setAf w).debugEnable = s.debugEnable := rfl
@[simp] theorem setAf_inputs (s : State) (w : Word) : (s.setAf w).inputs = s.inputs := rfl
@[simp] theorem setAf_memDataIn (s : State) (w : Word) : (s.setAf w).memDataIn = s.memDataIn := rfl
@[simp] theorem setAf_sfrDataIn (s : State) (w : Word) : (s.setAf w).sfrDataIn = s.sfrDataIn := rfl
@[simp] theorem setAf_bus (s : State) (w : Word) : (s.setAf w).bus = s.bus := rfl
@[simp] theorem setAf_draws (s : State) (w : Word) : (s.setAf w).draws = s.draws := rfl
@[simp] theorem setAf_kindAt (s : State) (w : Word) (y : Word) : (s.setAf w).kindAt y = s.kindAt y := by
  simp [State.kindAt]
@[simp] theorem setAf_peek (s : State) (w : Word) (y : Word) : (s.setAf w).peek y = s.peek y := by
  simp [State.peek]
@[simp] theorem setAf_memIn (s : State) (w : Word) (y : Word) : (s.setAf w).memIn y = s.memIn y := by
  simp [State.memIn]
@[simp] theorem setAf_sfrIn (s : State) (w : Word) : (s.setAf w).sfrIn = s.sfrIn := by
  simp [State.sfrIn]

/-! ### `setA` -/

@[simp] theorem setA_alt (s : State) (v : Byte) : (s.setA v).alt = s.alt := rfl
@[simp] theorem setA_ix (s : State) (v : Byte) : (s.setA v).ix = s.ix := rfl
@[simp] theorem setA_iy (s : State) (v : Byte) : (s.setA v).iy = s.iy := rfl
@[simp] theorem setA_sp (s : State) (v : Byte) : (s.setA v).sp = s.sp := rfl
@[simp] theorem setA_pc (s : State) (v : Byte) : (s.setA v).pc = s.pc := rfl
@[simp] theorem setA_ireg (s : State) (v : Byte) : (s.setA v).ireg = s.ireg := rfl
@[simp] theorem setA_iff1 (s : State) (v : Byte) : (s.setA v).iff1 = s.iff1 := rfl
@[simp] theorem setA_iff2 (s : State) (v : Byte) : (s.setA v).iff2 = s.iff2 := rfl
@[simp] theorem setA_im (s : State) (v : Byte) : (s.setA v).im = s.im := rfl
@[simp] theorem setA_eiShadow (s : State) (v : Byte) : (s.setA v).eiShadow = s.eiShadow := rfl
@[simp] theorem setA_nmiPending (s : State) (v : Byte) : (s.setA v).nmiPending = s.nmiPending := rfl
@[simp] theorem setA_halted (s : State) (v : Byte) : (s.setA v).halted = s.halted := rfl
@[simp] theorem setA_busGranted (s : State) (v : Byte) : (s.setA v).busGranted = s.busGranted := rfl
@[simp] theorem setA_debugStopped (s : State) (v : Byte) : (s.setA v).debugStopped = s.debugStopped := rfl
@[simp] theorem setA_mem (s : State) (v : Byte) : (s.setA v).mem = s.mem := rfl
@[simp] theorem setA_platform (s : State) (v : Byte) : (s.setA v).platform = s.platform := rfl
@[simp] theorem setA_debugEnable (s : State) (v : Byte) : (s.setA v).debugEnable = s.debugEnable := rfl
@[simp] theorem setA_inputs (s : State) (v : Byte) : (s.setA v).inputs = s.inputs := rfl
@[simp] theorem setA_memDataIn (s : State) (v : Byte) : (s.setA v).memDataIn = s.memDataIn := rfl
@[simp] theorem setA_sfrDataIn (s : State) (v : Byte) : (s.setA v).sfrDataIn = s.sfrDataIn := rfl
@[simp] theorem setA_bus (s : State) (v : Byte) : (s.setA v).bus = s.bus := rfl
@[simp] theorem setA_draws (s : State) (v : Byte) : (s.setA v).draws = s.draws := rfl
@[simp] theorem setA_kindAt (s : State) (v : Byte) (y : Word) : (s.setA v).kindAt y = s.kindAt y := by
  simp [State.kindAt]
@[simp] theorem setA_peek (s : State) (v : Byte) (y : Word) : (s.setA v).peek y = s.peek y := by
  simp [State.peek]
@[simp] theorem setA_memIn (s : State) (v : Byte) (y : Word) : (s.setA v).memIn y = s.memIn y := by
  simp [State.memIn]
@[simp] theorem setA_sfrIn (s : State) (v : Byte) : (s.setA v).sfrIn = s.sfrIn := by
  simp [State.sfrIn]

/-! ### `setB` -/

@[simp] theorem setB_alt (s : State) (v : Byte) : (s.setB v).alt = s.alt := rfl
@[simp] theorem setB_ix (s : State) (v : Byte) : (s.setB v).ix = s.ix := rfl
@[simp] theorem setB_iy (s : State) (v : Byte) : (s.setB v).iy = s.iy := rfl
@[simp] theorem setB_sp (s : State) (v : Byte) : (s.setB v).sp = s.sp := rfl
@[simp] theorem setB_pc (s : State) (v : Byte) : (s.setB v).pc = s.pc := rfl
@[simp] theorem setB_ireg (s : State) (v : Byte) : (s.setB v).ireg = s.ireg := rfl
@[simp] theorem setB_iff1 (s : State) (v : Byte) : (s.setB v).iff1 = s.iff1 := rfl
@[simp] theorem setB_iff2 (s : State) (v : Byte) : (s.setB v).iff2 = s.iff2 := rfl
@[simp] theorem setB_im (s : State) (v : Byte) : (s.setB v).im = s.im := rfl
@[simp] theorem setB_eiShadow (s : State) (v : Byte) : (s.setB v).eiShadow = s.eiShadow := rfl
@[simp] theorem setB_nmiPending (s : State) (v : Byte) : (s.setB v).nmiPending = s.nmiPending := rfl
@[simp] theorem setB_halted (s : State) (v : Byte) : (s.setB v).halted = s.halted := rfl
@[simp] theorem setB_busGranted (s : State) (v : Byte) : (s.setB v).busGranted = s.busGranted := rfl
@[simp] theorem setB_debugStopped (s : State) (v : Byte) : (s.setB v).debugStopped = s.debugStopped := rfl
@[simp] theorem setB_mem (s : State) (v : Byte) : (s.setB v).mem = s.mem := rfl
@[simp] theorem setB_platform (s : State) (v : Byte) : (s.setB v).platform = s.platform := rfl
@[simp] theorem setB_debugEnable (s : State) (v : Byte) : (s.setB v).debugEnable = s.debugEnable := rfl
@[simp] theorem setB_inputs (s : State) (v : Byte) : (s.setB v).inputs = s.inputs := rfl
@[simp] theorem setB_memDataIn (s : State) (v : Byte) : (s.setB v).memDataIn = s.memDataIn := rfl
@[simp] theorem setB_sfrDataIn (s : State) (v : Byte) : (s.setB v).sfrDataIn = s.sfrDataIn := rfl
@[simp] theorem setB_bus (s : State) (v : Byte) : (s.setB v).bus = s.bus := rfl
@[simp] theorem setB_draws (s : State) (v : Byte) : (s.setB v).draws = s.draws := rfl
@[simp] theorem setB_kindAt (s : State) (v : Byte) (y : Word) : (s.setB v).kindAt y = s.kindAt y := by
  simp [State.kindAt]
@[simp] theorem setB_peek (s : State) (v : Byte) (y : Word) : (s.setB v).peek y = s.peek y := by
  simp [State.peek]
@[simp] theorem setB_memIn (s : State) (v : Byte) (y : Word) : (s.setB v).memIn y = s.memIn y := by
  simp [State.memIn]
@[simp] theorem setB_sfrIn (s : State) (v : Byte) : (s.setB v).sfrIn = s.sfrIn := by
  simp [State.sfrIn]

/-! ### `setSp` -/

@[simp] theorem setSp_main (s : State) (w : Word) : (s.setSp w).main = s.main := rfl
@[simp] theorem setSp_alt (s : State) (w : Word) : (s.setSp w).alt = s.alt := rfl
@[simp] theorem setSp_ix (s : State) (w : Word) : (s.setSp w).ix = s.ix := rfl
@[simp] theorem setSp_iy (s : State) (w : Word) : (s.setSp w).iy = s.iy := rfl
@[simp] theorem setSp_pc (s : State) (w : Word) : (s.setSp w).pc = s.pc := rfl
@[simp] theorem setSp_ireg (s : State) (w : Word) : (s.setSp w).ireg = s.ireg := rfl
@[simp] theorem setSp_iff1 (s : State) (w : Word) : (s.setSp w).iff1 = s.iff1 := rfl
@[simp] theorem setSp_iff2 (s : State) (w : Word) : (s.setSp w).iff2 = s.iff2 := rfl
@[simp] theorem setSp_im (s : State) (w : Word) : (s.setSp w).im = s.im := rfl
@[simp] theorem setSp_eiShadow (s : State) (w : Word) : (s.setSp w).eiShadow = s.eiShadow := rfl
@[simp] theorem setSp_nmiPending (s : State) (w : Word) : (s.setSp w).nmiPending = s.nmiPending := rfl
@[simp] theorem setSp_halted (s : State) (w : Word) : (s.setSp w).halted = s.halted := rfl
@[simp] theorem setSp_busGranted (s : State) (w : Word) : (s.setSp w).busGranted = s.busGranted := rfl
@[simp] theorem setSp_debugStopped (s : State) (w : Word) : (s.setSp w).debugStopped = s.debugStopped := rfl
@[simp] theorem setSp_mem (s : State) (w : Word) : (s.setSp w).mem = s.mem := rfl
@[simp] theorem setSp_platform (s : State) (w : Word) : (s.setSp w).platform = s.platform := rfl
@[simp] theorem setSp_debugEnable (s : State) (w : Word) : (s.setSp w).debugEnable = s.debugEnable := rfl
@[simp] theorem setSp_inputs (s : State) (w : Word) : (s.setSp w).inputs = s.inputs := rfl
@[simp] theorem setSp_memDataIn (s : State) (w : Word) : (s.setSp w).memDataIn = s.memDataIn := rfl
@[simp] theorem setSp_sfrDataIn (s : State) (w : Word) : (s.setSp w).sfrDataIn = s.sfrDataIn := rfl
@[simp] theorem setSp_bus (s : State) (w : Word) : (s.setSp w).bus = s.bus := rfl
@[simp] theorem setSp_draws (s : State) (w : Word) : (s.setSp w).draws = s.draws := rfl
@[simp] theorem setSp_kindAt (s : State) (w : Word) (y : Word) : (s.setSp w).kindAt y = s.kindAt y := by
  simp [State.kindAt]
@[simp] theorem setSp_peek (s : State) (w : Word) (y : Word) : (s.setSp w).peek y = s.peek y := by
  simp [State.peek]
@[simp] theorem setSp_memIn (s : State) (w : Word) (y : Word) : (s.setSp w).memIn y = s.memIn y := by
  simp [State.memIn]
@[simp] theorem setSp_sfrIn (s : State) (w : Word) : (s.setSp w).sfrIn = s.sfrIn := by
  simp [State.sfrIn]

/-! ### `setPc` -/

@[simp] theorem setPc_main (s : State) (w : Word) : (s.setPc w).main = s.main := rfl
@[simp] theorem setPc_alt (s : State) (w : Word) : (s.setPc w).alt = s.alt := rfl
@[simp] theorem setPc_ix (s : State) (w : Word) : (s.setPc w).ix = s.ix := rfl
@[simp] theorem setPc_iy (s : State) (w : Word) : (s.setPc w).iy = s.iy := rfl
@[simp] theorem setPc_sp (s : State) (w : Word) : (s.setPc w).sp = s.sp := rfl
@[simp] theorem setPc_ireg (s : State) (w : Word) : (s.setPc w).ireg = s.ireg := rfl
@[simp] theorem setPc_iff1 (s : State) (w : Word) : (s.setPc w).iff1 = s.iff1 := rfl
@[simp] theorem setPc_iff2 (s : State) (w : Word) : (s.setPc w).iff2 = s.iff2 := rfl
@[simp] theorem setPc_im (s : State) (w : Word) : (s.setPc w).im = s.im := rfl
@[simp] theorem setPc_eiShadow (s : State) (w : Word) : (s.setPc w).eiShadow = s.eiShadow := rfl
@[simp] theorem setPc_nmiPending (s : State) (w : Word) : (s.setPc w).nmiPending = s.nmiPending := rfl
@[simp] theorem setPc_halted (s : State) (w : Word) : (s.setPc w).halted = s.halted := rfl
@[simp] theorem setPc_busGranted (s : State) (w : Word) : (s.setPc w).busGranted = s.busGranted := rfl
@[simp] theorem setPc_debugStopped (s : State) (w : Word) : (s.setPc w).debugStopped = s.debugStopped := rfl
@[simp] theorem setPc_mem (s : State) (w : Word) : (s.setPc w).mem = s.mem := rfl
@[simp] theorem setPc_platform (s : State) (w : Word) : (s.setPc w).platform = s.platform := rfl
@[simp] theorem setPc_debugEnable (s : State) (w : Word) : (s.setPc w).debugEnable = s.debugEnable := rfl
@[simp] theorem setPc_inputs (s : State) (w : Word) : (s.setPc w).inputs = s.inputs := rfl
@[simp] theorem setPc_memDataIn (s : State) (w : Word) : (s.setPc w).memDataIn = s.memDataIn := rfl
@[simp] theorem setPc_sfrDataIn (s : State) (w : Word) : (s.setPc w).sfrDataIn = s.sfrDataIn := rfl
@[simp] theorem setPc_bus (s : State) (w : Word) : (s.setPc w).bus = s.bus := rfl
@[simp] theorem setPc_draws (s : State) (w : Word) : (s.setPc w).draws = s.draws := rfl
@[simp] theorem setPc_kindAt (s : State) (w : Word) (y : Word) : (s.setPc w).kindAt y = s.kindAt y := by
  simp [State.kindAt]
@[simp] theorem setPc_peek (s : State) (w : Word) (y : Word) : (s.setPc w).peek y = s.peek y := by
  simp [State.peek]
@[simp] theorem setPc_memIn (s : State) (w : Word) (y : Word) : (s.setPc w).memIn y = s.memIn y := by
  simp [State.memIn]
@[simp] theorem setPc_sfrIn (s : State) (w : Word) : (s.setPc w).sfrIn = s.sfrIn := by
  simp [State.sfrIn]

/-! ### `setPair` -/

@[simp] theorem setPair_alt (s : State) (p : Pair) (w : Word) : (s.setPair p w).alt = s.alt := by cases p <;> rfl
@[simp] theorem setPair_ix (s : State) (p : Pair) (w : Word) : (s.setPair p w).ix = s.ix := by cases p <;> rfl
@[simp] theorem setPair_iy (s : State) (p : Pair) (w : Word) : (s.setPair p w).iy = s.iy := by cases p <;> rfl
@[simp] theorem setPair_pc (s : State) (p : Pair) (w : Word) : (s.setPair p w).pc = s.pc := by cases p <;> rfl
@[simp] theorem setPair_ireg (s : State) (p : Pair) (w : Word) : (s.setPair p w).ireg = s.ireg := by cases p <;> rfl
@[simp] theorem setPair_iff1 (s : State) (p : Pair) (w : Word) : (s.setPair p w).iff1 = s.iff1 := by cases p <;> rfl
@[simp] theorem setPair_iff2 (s : State) (p : Pair) (w : Word) : (s.setPair p w).iff2 = s.iff2 := by cases p <;> rfl
@[simp] theorem setPair_im (s : State) (p : Pair) (w : Word) : (s.setPair p w).im = s.im := by cases p <;> rfl
@[simp] theorem setPair_eiShadow (s : State) (p : Pair) (w : Word) : (s.setPair p w).eiShadow = s.eiShadow := by cases p <;> rfl
@[simp] theorem setPair_nmiPending (s : State) (p : Pair) (w : Word) : (s.setPair p w).nmiPending = s.nmiPending := by cases p <;> rfl
@[simp] theorem setPair_halted (s : State) (p : Pair) (w : Word) : (s.setPair p w).halted = s.halted := by cases p <;> rfl
@[simp] theorem setPair_busGranted (s : State) (p : Pair) (w : Word) : (s.setPair p w).busGranted = s.busGranted := by cases p <;> rfl
@[simp] theorem setPair_debugStopped (s : State) (p : Pair) (w : Word) : (s.setPair p w).debugStopped = s.debugStopped := by cases p <;> rfl
@[simp] theorem setPair_mem (s : State) (p : Pair) (w : Word) : (s.setPair p w).mem = s.mem := by cases p <;> rfl
@[simp] theorem setPair_platform (s : State) (p : Pair) (w : Word) : (s.setPair p w).platform = s.platform := by cases p <;> rfl
@[simp] theorem setPair_debugEnable (s : State) (p : Pair) (w : Word) : (s.setPair p w).debugEnable = s.debugEnable := by cases p <;> rfl
@[simp] theorem setPair_inputs (s : State) (p : Pair) (w : Word) : (s.setPair p w).inputs = s.inputs := by cases p <;> rfl
@[simp] theorem setPair_memDataIn (s : State) (p : Pair) (w : Word) : (s.setPair p w).memDataIn = s.memDataIn := by cases p <;> rfl
@[simp] theorem setPair_sfrDataIn (s : State) (p : Pair) (w : Word) : (s.setPair p w).sfrDataIn = s.sfrDataIn := by cases p <;> rfl
@[simp] theorem setPair_bus (s : State) (p : Pair) (w : Word) : (s.setPair p w).bus = s.bus := by cases p <;> rfl
@[simp] theorem setPair_draws (s : State) (p : Pair) (w : Word) : (s.setPair p w).draws = s.draws := by cases p <;> rfl
@[simp] theorem setPair_kindAt (s : State) (p : Pair) (w : Word) (y : Word) : (s.setPair p w).kindAt y = s.kindAt y := by
  simp [State.kindAt]
@[simp] theorem setPair_peek (s : State) (p : Pair) (w : Word) (y : Word) : (s.setPair p w).peek y = s.peek y := by
  simp [State.peek]
@[simp] theorem setPair_memIn (s : State) (p : Pair) (w : Word) (y : Word) : (s.setPair p w).memIn y = s.memIn y := by
  simp [State.memIn]
@[simp] theorem setPair_sfrIn (s : State) (p : Pair) (w : Word) : (s.setPair p w).sfrIn = s.sfrIn := by
  simp [State.sfrIn]

/-! ### `setPairQ` -/

@[simp] theorem setPairQ_alt (s : State) (q : PairQ) (w : Word) : (s.setPairQ q w).alt = s.alt := by cases q <;> rfl
@[simp] theorem setPairQ_ix (s : State) (q : PairQ) (w : Word) : (s.setPairQ q w).ix = s.ix := by cases q <;> rfl
@[simp] theorem setPairQ_iy (s : State) (q : PairQ) (w : Word) : (s.setPairQ q w).iy = s.iy := by cases q <;> rfl
@[simp] theorem setPairQ_sp (s : State) (q : PairQ) (w : Word) : (s.setPairQ q w).sp = s.sp := by cases q <;> rfl
@[simp] theorem setPairQ_pc (s : State) (q : PairQ) (w : Word) : (s.setPairQ q w).pc = s.pc := by cases q <;> rfl
@[simp] theorem setPairQ_ireg (s : State) (q : PairQ) (w : Word) : (s.setPairQ q w).ireg = s.ireg := by cases q <;> rfl
@[simp] theorem setPairQ_iff1 (s : State) (q : PairQ) (w : Word) : (s.setPairQ q w).iff1 = s.iff1 := by cases q <;> rfl
@[simp] theorem setPairQ_iff2 (s : State) (q : PairQ) (w : Word) : (s.setPairQ q w).iff2 = s.iff2 := by cases q <;> rfl
@[simp] theorem setPairQ_im (s : State) (q : PairQ) (w : Word) : (s.setPairQ q w).im = s.im := by cases q <;> rfl
@[simp] theorem setPairQ_eiShadow (s : State) (q : PairQ) (w : Word) : (s.setPairQ q w).eiShadow = s.eiShadow := by cases q <;> rfl
@[simp] theorem setPairQ_nmiPending (s : State) (q : PairQ) (w : Word) : (s.setPairQ q w).nmiPending = s.nmiPending := by cases q <;> rfl
@[simp] theorem setPairQ_halted (s : State) (q : PairQ) (w : Word) : (s.setPairQ q w).halted = s.halted := by cases q <;> rfl
@[simp] theorem setPairQ_busGranted (s : State) (q : PairQ) (w : Word) : (s.setPairQ q w).busGranted = s.busGranted := by cases q <;> rfl
@[simp] theorem setPairQ_debugStopped (s : State) (q : PairQ) (w : Word) : (s.setPairQ q w).debugStopped = s.debugStopped := by cases q <;> rfl
@[simp] theorem setPairQ_mem (s : State) (q : PairQ) (w : Word) : (s.setPairQ q w).mem = s.mem := by cases q <;> rfl
@[simp] theorem setPairQ_platform (s : State) (q : PairQ) (w : Word) : (s.setPairQ q w).platform = s.platform := by cases q <;> rfl
@[simp] theorem setPairQ_debugEnable (s : State) (q : PairQ) (w : Word) : (s.setPairQ q w).debugEnable = s.debugEnable := by cases q <;> rfl
@[simp] theorem setPairQ_inputs (s : State) (q : PairQ) (w : Word) : (s.setPairQ q w).inputs = s.inputs := by cases q <;> rfl
@[simp] theorem setPairQ_memDataIn (s : State) (q : PairQ) (w : Word) : (s.setPairQ q w).memDataIn = s.memDataIn := by cases q <;> rfl
@[simp] theorem setPairQ_sfrDataIn (s : State) (q : PairQ) (w : Word) : (s.setPairQ q w).sfrDataIn = s.sfrDataIn := by cases q <;> rfl
@[simp] theorem setPairQ_bus (s : State) (q : PairQ) (w : Word) : (s.setPairQ q w).bus = s.bus := by cases q <;> rfl
@[simp] theorem setPairQ_draws (s : State) (q : PairQ) (w : Word) : (s.setPairQ q w).draws = s.draws := by cases q <;> rfl
@[simp] theorem setPairQ_kindAt (s : State) (q : PairQ) (w : Word) (y : Word) : (s.setPairQ q w).kindAt y = s.kindAt y := by
  simp [State.kindAt]
@[simp] theorem setPairQ_peek (s : State) (q : PairQ) (w : Word) (y : Word) : (s.setPairQ q w).peek y = s.peek y := by
  simp [State.peek]
@[simp] theorem setPairQ_memIn (s : State) (q : PairQ) (w : Word) (y : Word) : (s.setPairQ q w).memIn y = s.memIn y := by
  simp [State.memIn]
@[simp] theorem setPairQ_sfrIn (s : State) (q : PairQ) (w : Word) : (s.setPairQ q w).sfrIn = s.sfrIn := by
  simp [State.sfrIn]

/-! ### `setIdx` -/

@[simp] theorem setIdx_main (s : State) (x : Idx) (w : Word) : (s.setIdx x w).main = s.main := by cases x <;> rfl
@[simp] theorem setIdx_alt (s : State) (x : Idx) (w : Word) : (s.setIdx x w).alt = s.alt := by cases x <;> rfl
@[simp] theorem setIdx_sp (s : State) (x : Idx) (w : Word) : (s.setIdx x w).sp = s.sp := by cases x <;> rfl
@[simp] theorem setIdx_pc (s : State) (x : Idx) (w : Word) : (s.setIdx x w).pc = s.pc := by cases x <;> rfl
@[simp] theorem setIdx_ireg (s : State) (x : Idx) (w : Word) : (s.setIdx x w).ireg = s.ireg := by cases x <;> rfl
@[simp] theorem setIdx_iff1 (s : State) (x : Idx) (w : Word) : (s.setIdx x w).iff1 = s.iff1 := by cases x <;> rfl
@[simp] theorem setIdx_iff2 (s : State) (x : Idx) (w : Word) : (s.setIdx x w).iff2 = s.iff2 := by cases x <;> rfl
@[simp] theorem setIdx_im (s : State) (x : Idx) (w : Word) : (s.setIdx x w).im = s.im := by cases x <;> rfl
@[simp] theorem setIdx_eiShadow (s : State) (x : Idx) (w : Word) : (s.setIdx x w).eiShadow = s.eiShadow := by cases x <;> rfl
@[simp] theorem setIdx_nmiPending (s : State) (x : Idx) (w : Word) : (s.setIdx x w).nmiPending = s.nmiPending := by cases x <;> rfl
@[simp] theorem setIdx_halted (s : State) (x : Idx) (w : Word) : (s.setIdx x w).halted = s.halted := by cases x <;> rfl
@[simp] theorem setIdx_busGranted (s : State) (x : Idx) (w : Word) : (s.setIdx x w).busGranted = s.busGranted := by cases x <;> rfl
@[simp] theorem setIdx_debugStopped (s : State) (x : Idx) (w : Word) : (s.setIdx x w).debugStopped = s.debugStopped := by cases x <;> rfl
@[simp] theorem setIdx_mem (s : State) (x : Idx) (w : Word) : (s.setIdx x w).mem = s.mem := by cases x <;> rfl
@[simp] theorem setIdx_platform (s : State) (x : Idx) (w : Word) : (s.setIdx x w).platform = s.platform := by cases x <;> rfl
@[simp] theorem setIdx_debugEnable (s : State) (x : Idx) (w : Word) : (s.setIdx x w).debugEnable = s.debugEnable := by cases x <;> rfl
@[simp] theorem setIdx_inputs (s : State) (x : Idx) (w : Word) : (s.setIdx x w).inputs = s.inputs := by cases x <;> rfl
@[simp] theorem setIdx_memDataIn (s : State) (x : Idx) (w : Word) : (s.setIdx x w).memDataIn = s.memDataIn := by cases x <;> rfl
@[simp] theorem setIdx_sfrDataIn (s : State) (x : Idx) (w : Word) : (s.setIdx x w).sfrDataIn = s.sfrDataIn := by cases x <;> rfl
@[simp] theorem setIdx_bus (s : State) (x : Idx) (w : Word) : (s.setIdx x w).bus = s.bus := by cases x <;> rfl
@[simp] theorem setIdx_draws (s : State) (x : Idx) (w : Word) : (s.setIdx x w).draws = s.draws := by cases x <;> rfl
@[simp] theorem setIdx_kindAt (s : State) (x : Idx) (w : Word) (y : Word) : (s.setIdx x w).kindAt y = s.kindAt y := by
  simp [State.kindAt]
@[simp] theorem setIdx_peek (s : State) (x : Idx) (w : Word) (y : Word) : (s.setIdx x w).peek y = s.peek y := by
  simp [State.peek]
@[simp] theorem setIdx_memIn (s : State) (x : Idx) (w : Word) (y : Word) : (s.setIdx x w).memIn y = s.memIn y := by
  simp [State.memIn]
@[simp] theorem setIdx_sfrIn (s : State) (x : Idx) (w : Word) : (s.setIdx x w).sfrIn = s.sfrIn := by
  simp [State.sfrIn]

/-! ### `putFlagsWith` -/

@[simp] theorem putFlagsWith_alt (s : State) (fl : Flags) (f5 f3 : Bool) : (s.putFlagsWith fl f5 f3).alt = s.alt := rfl
@[simp] theorem putFlagsWith_ix (s : State) (fl : Flags) (f5 f3 : Bool) : (s.putFlagsWith fl f5 f3).ix = s.ix := rfl
@[simp] theorem putFlagsWith_iy (s : State) (fl : Flags) (f5 f3 : Bool) : (s.putFlagsWith fl f5 f3).iy = s.iy := rfl
@[simp] theorem putFlagsWith_sp (s : State) (fl : Flags) (f5 f3 : Bool) : (s.putFlagsWith fl f5 f3).sp = s.sp := rfl
@[simp] theorem putFlagsWith_pc (s : State) (fl : Flags) (f5 f3 : Bool) : (s.putFlagsWith fl f5 f3).pc = s.pc := rfl
@[simp] theorem putFlagsWith_ireg (s : State) (fl : Flags) (f5 f3 : Bool) : (s.putFlagsWith fl f5 f3).ireg = s.ireg := rfl
@[simp] theorem putFlagsWith_iff1 (s : State) (fl : Flags) (f5 f3 : Bool) : (s.putFlagsWith fl f5 f3).iff1 = s.iff1 := rfl
@[simp] theorem putFlagsWith_iff2 (s : State) (fl : Flags) (f5 f3 : Bool) : (s.putFlagsWith fl f5 f3).iff2 = s.iff2 := rfl
@[simp] theorem putFlagsWith_im (s : State) (fl : Flags) (f5 f3 : Bool) : (s.putFlagsWith fl f5 f3).im = s.im := rfl
@[simp] theorem putFlagsWith_eiShadow (s : State) (fl : Flags) (f5 f3 : Bool) : (s.putFlagsWith fl f5 f3).eiShadow = s.eiShadow := rfl
@[simp] theorem putFlagsWith_nmiPending (s : State) (fl : Flags) (f5 f3 : Bool) : (s.putFlagsWith fl f5 f3).nmiPending = s.nmiPending := rfl
@[simp] theorem putFlagsWith_halted (s : State) (fl : Flags) (f5 f3 : Bool) : (s.putFlagsWith fl f5 f3).halted = s.halted := rfl
@[simp] theorem putFlagsWith_busGranted (s : State) (fl : Flags) (f5 f3 : Bool) : (s.putFlagsWith fl f5 f3).busGranted = s.busGranted := rfl
@[simp] theorem putFlagsWith_debugStopped (s : State) (fl : Flags) (f5 f3 : Bool) : (s.putFlagsWith fl f5 f3).debugStopped = s.debugStopped := rfl
@[simp] theorem putFlagsWith_mem (s : State) (fl : Flags) (f5 f3 : Bool) : (s.putFlagsWith fl f5 f3).mem = s.mem := rfl
@[simp] theorem putFlagsWith_platform (s : State) (fl : Flags) (f5 f3 : Bool) : (s.putFlagsWith fl f5 f3).platform = s.platform := rfl
@[simp] theorem putFlagsWith_debugEnable (s : State) (fl : Flags) (f5 f3 : Bool) : (s.putFlagsWith fl f5 f3).debugEnable = s.debugEnable := rfl
@[simp] theorem putFlagsWith_inputs (s : State) (fl : Flags) (f5 f3 : Bool) : (s.putFlagsWith fl f5 f3).inputs = s.inputs := rfl
@[simp] theorem putFlagsWith_memDataIn (s : State) (fl : Flags) (f5 f3 : Bool) : (s.putFlagsWith fl f5 f3).memDataIn = s.memDataIn := rfl
@[simp] theorem putFlagsWith_sfrDataIn (s : State) (fl : Flags) (f5 f3 : Bool) : (s.putFlagsWith fl f5 f3).sfrDataIn = s.sfrDataIn := rfl
@[simp] theorem putFlagsWith_bus (s : State) (fl : Flags) (f5 f3 : Bool) : (s.putFlagsWith fl f5 f3).bus = s.bus := rfl
@[simp] theorem putFlagsWith_draws (s : State) (fl : Flags) (f5 f3 : Bool) : (s.putFlagsWith fl f5 f3).draws = s.draws := rfl
@[simp] theorem putFlagsWith_kindAt (s : State) (fl : Flags) (f5 f3 : Bool) (y : Word) : (s.putFlagsWith fl f5 f3).kindAt y = s.kindAt y := by
  simp [State.kindAt]
@[simp] theorem putFlagsWith_peek (s : State) (fl : Flags) (f5 f3 : Bool) (y : Word) : (s.putFlagsWith fl f5 f3).peek y = s.peek y := by
  simp [State.peek]
@[simp] theorem putFlagsWith_memIn (s : State) (fl : Flags) (f5 f3 : Bool) (y : Word) : (s.putFlagsWith fl f5 f3).memIn y = s.memIn y := by
  simp [State.memIn]
@[simp] theorem putFlagsWith_sfrIn (s : State) (fl : Flags) (f5 f3 : Bool) : (s.putFlagsWith fl f5 f3).sfrIn = s.sfrIn := by
  simp [State.sfrIn]

/-! ### `putFlags` -/

@[simp] theorem putFlags_alt (s : State) (fl : Flags) : (s.putFlags fl).alt = s.alt := rfl
@[simp] theorem putFlags_ix (s : State) (fl : Flags) : (s.putFlags fl).ix = s.ix := rfl
@[simp] theorem putFlags_iy (s : State) (fl : Flags) : (s.putFlags fl).iy = s.iy := rfl
@[simp] theorem putFlags_sp (s : State) (fl : Flags) : (s.putFlags fl).sp = s.sp := rfl
@[simp] theorem putFlags_pc (s : State) (fl : Flags) : (s.putFlags fl).pc = s.pc := rfl
@[simp] theorem putFlags_ireg (s : State) (fl : Flags) : (s.putFlags fl).ireg = s.ireg := rfl
@[simp] theorem putFlags_iff1 (s : State) (fl : Flags) : (s.putFlags fl).iff1 = s.iff1 := rfl
@[simp] theorem putFlags_iff2 (s : State) (fl : Flags) : (s.putFlags fl).iff2 = s.iff2 := rfl
@[simp] theorem putFlags_im (s : State) (fl : Flags) : (s.putFlags fl).im = s.im := rfl
@[simp] theorem putFlags_eiShadow (s : State) (fl : Flags) : (s.putFlags fl).eiShadow = s.eiShadow := rfl
@[simp] theorem putFlags_nmiPending (s : State) (fl : Flags) : (s.putFlags fl).nmiPending = s.nmiPending := rfl
@[simp] theorem putFlags_halted (s : State) (fl : Flags) : (s.putFlags fl).halted = s.halted := rfl
@[simp] theorem putFlags_busGranted (s : State) (fl : Flags) : (s.putFlags fl).busGranted = s.busGranted := rfl
@[simp] theorem putFlags_debugStopped (s : State) (fl : Flags) : (s.putFlags fl).debugStopped = s.debugStopped := rfl
@[simp] theorem putFlags_mem (s : State) (fl : Flags) : (s.putFlags fl).mem = s.mem := rfl
@[simp] theorem putFlags_platform (s : State) (fl : Flags) : (s.putFlags fl).platform = s.platform := rfl
@[simp] theorem putFlags_debugEnable (s : State) (fl : Flags) : (s.putFlags fl).debugEnable = s.debugEnable := rfl
@[simp] theorem putFlags_inputs (s : State) (fl : Flags) : (s.putFlags fl).inputs = s.inputs := rfl
@[simp] theorem putFlags_memDataIn (s : State) (fl : Flags) : (s.putFlags fl).memDataIn = s.memDataIn := rfl
@[simp] theorem putFlags_sfrDataIn (s : State) (fl : Flags) : (s.putFlags fl).sfrDataIn = s.sfrDataIn := rfl
@[simp] theorem putFlags_bus (s : State) (fl : Flags) : (s.putFlags fl).bus = s.bus := rfl
@[simp] theorem putFlags_kindAt (s : State) (fl : Flags) (y : Word) : (s.putFlags fl).kindAt y = s.kindAt y := by
  simp [State.kindAt]
@[simp] theorem putFlags_peek (s : State) (fl : Flags) (y : Word) : (s.putFlags fl).peek y = s.peek y := by
  simp [State.peek]

/-! ### `note` -/

@[simp] theorem note_main (s : State) (e : BusEvent) : (s.note e).main = s.main := rfl
@[simp] theorem note_alt (s : State) (e : BusEvent) : (s.note e).alt = s.alt := rfl
@[simp] theorem note_ix (s : State) (e : BusEvent) : (s.note e).ix = s.ix := rfl
@[simp] theorem note_iy (s : State) (e : BusEvent) : (s.note e).iy = s.iy := rfl
@[simp] theorem note_sp (s : State) (e : BusEvent) : (s.note e).sp = s.sp := rfl
@[simp] theorem note_pc (s : State) (e : BusEvent) : (s.note e).pc = s.pc := rfl
@[simp] theorem note_ireg (s : State) (e : BusEvent) : (s.note e).ireg = s.ireg := rfl
@[simp] theorem note_iff1 (s : State) (e : BusEvent) : (s.note e).iff1 = s.iff1 := rfl
@[simp] theorem note_iff2 (s : State) (e : BusEvent) : (s.note e).iff2 = s.iff2 := rfl
@[simp] theorem note_im (s : State) (e : BusEvent) : (s.note e).im = s.im := rfl
@[simp] theorem note_eiShadow (s : State) (e : BusEvent) : (s.note e).eiShadow = s.eiShadow := rfl
@[simp] theorem note_nmiPending (s : State) (e : BusEvent) : (s.note e).nmiPending = s.nmiPending := rfl
@[simp] theorem note_halted (s : State) (e : BusEvent) : (s.note e).halted = s.halted := rfl
@[simp] theorem note_busGranted (s : State) (e : BusEvent) : (s.note e).busGranted = s.busGranted := rfl
@[simp] theorem note_debugStopped (s : State) (e : BusEvent) : (s.note e).debugStopped = s.debugStopped := rfl
@[simp] theorem note_mem (s : State) (e : BusEvent) : (s.note e).mem = s.mem := rfl
@[simp] theorem note_platform (s : State) (e : BusEvent) : (s.note e).platform = s.platform := rfl
@[simp] theorem note_debugEnable (s : State) (e : BusEvent) : (s.note e).debugEnable = s.debugEnable := rfl
@[simp] theorem note_inputs (s : State) (e : BusEvent) : (s.note e).inputs = s.inputs := rfl
@[simp] theorem note_memDataIn (s : State) (e : BusEvent) : (s.note e).memDataIn = s.memDataIn := rfl
@[simp] theorem note_sfrDataIn (s : State) (e : BusEvent) : (s.note e).sfrDataIn = s.sfrDataIn := rfl
@[simp] theorem note_draws (s : State) (e : BusEvent) : (s.note e).draws = s.draws := rfl
@[simp] theorem note_kindAt (s : State) (e : BusEvent) (y : Word) : (s.note e).kindAt y = s.kindAt y := by
  simp [State.kindAt]
@[simp] theorem note_peek (s : State) (e : BusEvent) (y : Word) : (s.note e).peek y = s.peek y := by
  simp [State.peek]
@[simp] theorem note_memIn (s : State) (e : BusEvent) (y : Word) : (s.note e).memIn y = s.memIn y := by
  simp [State.memIn]
@[simp] theorem note_sfrIn (s : State) (e : BusEvent) : (s.note e).sfrIn = s.sfrIn := by
  simp [State.sfrIn]

/-! ### `tookMemData` -/

@[simp] theorem tookMemData_main (s : State) (a : Word) : (s.tookMemData a).main = s.main := by unfold State.tookMemData; repeat (first | rfl | split)
@[simp] theorem tookMemData_alt (s : State) (a : Word) : (s.tookMemData a).alt = s.alt := by unfold State.tookMemData; repeat (first | rfl | split)
@[simp] theorem tookMemData_ix (s : State) (a : Word) : (s.tookMemData a).ix = s.ix := by unfold State.tookMemData; repeat (first | rfl | split)
@[simp] theorem tookMemData_iy (s : State) (a : Word) : (s.tookMemData a).iy = s.iy := by unfold State.tookMemData; repeat (first | rfl | split)
@[simp] theorem tookMemData_sp (s : State) (a : Word) : (s.tookMemData a).sp = s.sp := by unfold State.tookMemData; repeat (first | rfl | split)
@[simp] theorem tookMemData_pc (s : State) (a : Word) : (s.tookMemData a).pc = s.pc := by unfold State.tookMemData; repeat (first | rfl | split)
@[simp] theorem tookMemData_ireg (s : State) (a : Word) : (s.tookMemData a).ireg = s.ireg := by unfold State.tookMemData; repeat (first | rfl | split)
@[simp] theorem tookMemData_iff1 (s : State) (a : Word) : (s.tookMemData a).iff1 = s.iff1 := by unfold State.tookMemData; repeat (first | rfl | split)
@[simp] theorem tookMemData_iff2 (s : State) (a : Word) : (s.tookMemData a).iff2 = s.iff2 := by unfold State.tookMemData; repeat (first | rfl | split)
@[simp] theorem tookMemData_im (s : State) (a : Word) : (s.tookMemData a).im = s.im := by unfold State.tookMemData; repeat (first | rfl | split)
@[simp] theorem tookMemData_eiShadow (s : State) (a : Word) : (s.tookMemData a).eiShadow = s.eiShadow := by unfold State.tookMemData; repeat (first | rfl | split)
@[simp] theorem tookMemData_nmiPending (s : State) (a : Word) : (s.tookMemData a).nmiPending = s.nmiPending := by unfold State.tookMemData; repeat (first | rfl | split)
@[simp] theorem tookMemData_halted (s : State) (a : Word) : (s.tookMemData a).halted = s.halted := by unfold State.tookMemData; repeat (first | rfl | split)
@[simp] theorem tookMemData_busGranted (s : State) (a : Word) : (s.tookMemData a).busGranted = s.busGranted := by unfold State.tookMemData; repeat (first | rfl | split)
@[simp] theorem tookMemData_debugStopped (s : State) (a : Word) : (s.tookMemData a).debugStopped = s.debugStopped := by unfold State.tookMemData; repeat (first | rfl | split)
@[simp] theorem tookMemData_mem (s : State) (a : Word) : (s.tookMemData a).mem = s.mem := by unfold State.tookMemData; repeat (first | rfl | split)
@[simp] theorem tookMemData_platform (s : State) (a : Word) : (s.tookMemData a).platform = s.platform := by unfold State.tookMemData; repeat (first | rfl | split)
@[simp] theorem tookMemData_debugEnable (s : State) (a : Word) : (s.tookMemData a).debugEnable = s.debugEnable := by unfold State.tookMemData; repeat (first | rfl | split)
@[simp] theorem tookMemData_inputs (s : State) (a : Word) : (s.tookMemData a).inputs = s.inputs := by unfold State.tookMemData; repeat (first | rfl | split)
@[simp] theorem tookMemData_sfrDataIn (s : State) (a : Word) : (s.tookMemData a).sfrDataIn = s.sfrDataIn := by unfold State.tookMemData; repeat (first | rfl | split)
@[simp] theorem tookMemData_bus (s : State) (a : Word) : (s.tookMemData a).bus = s.bus := by unfold State.tookMemData; repeat (first | rfl | split)
@[simp] theorem tookMemData_kindAt (s : State) (a : Word) (y : Word) : (s.tookMemData a).kindAt y = s.kindAt y := by
  simp [State.kindAt]
@[simp] theorem tookMemData_peek (s : State) (a : Word) (y : Word) : (s.tookMemData a).peek y = s.peek y := by
  simp [State.peek]

/-! ### `memRead` -/

@[simp] theorem memRead_main (s : State) (a : Word) : (s.memRead a).main = s.main := by simp [State.memRead]
@[simp] theorem memRead_alt (s : State) (a : Word) : (s.memRead a).alt = s.alt := by simp [State.memRead]
@[simp] theorem memRead_ix (s : State) (a : Word) : (s.memRead a).ix = s.ix := by simp [State.memRead]
@[simp] theorem memRead_iy (s : State) (a : Word) : (s.memRead a).iy = s.iy := by simp [State.memRead]
@[simp] theorem memRead_sp (s : State) (a : Word) : (s.memRead a).sp = s.sp := by simp [State.memRead]
@[simp] theorem memRead_pc (s : State) (a : Word) : (s.memRead a).pc = s.pc := by simp [State.memRead]
@[simp] theorem memRead_ireg (s : State) (a : Word) : (s.memRead a).ireg = s.ireg := by simp [State.memRead]
@[simp] theorem memRead_iff1 (s : State) (a : Word) : (s.memRead a).iff1 = s.iff1 := by simp [State.memRead]
@[simp] theorem memRead_iff2 (s : State) (a : Word) : (s.memRead a).iff2 = s.iff2 := by simp [State.memRead]
@[simp] theorem memRead_im (s : State) (a : Word) : (s.memRead a).im = s.im := by simp [State.memRead]
@[simp] theorem memRead_eiShadow (s : State) (a : Word) : (s.memRead a).eiShadow = s.eiShadow := by simp [State.memRead]
@[simp] theorem memRead_nmiPending (s : State) (a : Word) : (s.memRead a).nmiPending = s.nmiPending := by simp [State.memRead]
@[simp] theorem memRead_halted (s : State) (a : Word) : (s.memRead a).halted = s.halted := by simp [State.memRead]
@[simp] theorem memRead_busGranted (s : State) (a : Word) : (s.memRead a).busGranted = s.busGranted := by simp [State.memRead]
@[simp] theorem memRead_debugStopped (s : State) (a : Word) : (s.memRead a).debugStopped = s.debugStopped := by simp [State.memRead]
@[simp] theorem memRead_mem (s : State) (a : Word) : (s.memRead a).mem = s.mem := by simp [State.memRead]
@[simp] theorem memRead_platform (s : State) (a : Word) : (s.memRead a).platform = s.platform := by simp [State.memRead]
@[simp] theorem memRead_debugEnable (s : State) (a : Word) : (s.memRead a).debugEnable = s.debugEnable := by simp [State.memRead]
@[simp] theorem memRead_inputs (s : State) (a : Word) : (s.memRead a).inputs = s.inputs := by simp [State.memRead]
@[simp] theorem memRead_sfrDataIn (s : State) (a : Word) : (s.memRead a).sfrDataIn = s.sfrDataIn := by simp [State.memRead]
@[simp] theorem memRead_kindAt (s : State) (a : Word) (y : Word) : (s.memRead a).kindAt y = s.kindAt y := by
  simp [State.kindAt]
@[simp] theorem memRead_peek (s : State) (a : Word) (y : Word) : (s.memRead a).peek y = s.peek y := by
  simp [State.peek]

/-! ### `poke` -/

@[simp] theorem poke_main (s : State) (a : Word) (v : Byte) : (s.poke a v).main = s.main := by unfold State.poke; split <;> rfl
@[simp] theorem poke_alt (s : State) (a : Word) (v : Byte) : (s.poke a v).alt = s.alt := by unfold State.poke; split <;> rfl
@[simp] theorem poke_ix (s : State) (a : Word) (v : Byte) : (s.poke a v).ix = s.ix := by unfold State.poke; split <;> rfl
@[simp] theorem poke_iy (s : State) (a : Word) (v : Byte) : (s.poke a v).iy = s.iy := by unfold State.poke; split <;> rfl
@[simp] theorem poke_sp (s : State) (a : Word) (v : Byte) : (s.poke a v).sp = s.sp := by unfold State.poke; split <;> rfl
@[simp] theorem poke_pc (s : State) (a : Word) (v : Byte) : (s.poke a v).pc = s.pc := by unfold State.poke; split <;> rfl
@[simp] theorem poke_ireg (s : State) (a : Word) (v : Byte) : (s.poke a v).ireg = s.ireg := by unfold State.poke; split <;> rfl
@[simp] theorem poke_iff1 (s : State) (a : Word) (v : Byte) : (s.poke a v).iff1 = s.iff1 := by unfold State.poke; split <;> rfl
@[simp] theorem poke_iff2 (s : State) (a : Word) (v : Byte) : (s.poke a v).iff2 = s.iff2 := by unfold State.poke; split <;> rfl
@[simp] theorem poke_im (s : State) (a : Word) (v : Byte) : (s.poke a v).im = s.im := by unfold State.poke; split <;> rfl
@[simp] theorem poke_eiShadow (s : State) (a : Word) (v : Byte) : (s.poke a v).eiShadow = s.eiShadow := by unfold State.poke; split <;> rfl
@[simp] theorem poke_nmiPending (s : State) (a : Word) (v : Byte) : (s.poke a v).nmiPending = s.nmiPending := by unfold State.poke; split <;> rfl
@[simp] theorem poke_halted (s : State) (a : Word) (v : Byte) : (s.poke a v).halted = s.halted := by unfold State.poke; split <;> rfl
@[simp] theorem poke_busGranted (s : State) (a : Word) (v : Byte) : (s.poke a v).busGranted = s.busGranted := by unfold State.poke; split <;> rfl
@[simp] theorem poke_debugStopped (s : State) (a : Word) (v : Byte) : (s.poke a v).debugStopped = s.debugStopped := by unfold State.poke; split <;> rfl
@[simp] theorem poke_platform (s : State) (a : Word) (v : Byte) : (s.poke a v).platform = s.platform := by unfold State.poke; split <;> rfl
@[simp] theorem poke_debugEnable (s : State) (a : Word) (v : Byte) : (s.poke a v).debugEnable = s.debugEnable := by unfold State.poke; split <;> rfl
@[simp] theorem poke_inputs (s : State) (a : Word) (v : Byte) : (s.poke a v).inputs = s.inputs := by unfold State.poke; split <;> rfl
@[simp] theorem poke_memDataIn (s : State) (a : Word) (v : Byte) : (s.poke a v).memDataIn = s.memDataIn := by unfold State.poke; split <;> rfl
@[simp] theorem poke_sfrDataIn (s : State) (a : Word) (v : Byte) : (s.poke a v).sfrDataIn = s.sfrDataIn := by unfold State.poke; split <;> rfl
@[simp] theorem poke_bus (s : State) (a : Word) (v : Byte) : (s.poke a v).bus = s.bus := by unfold State.poke; split <;> rfl
@[simp] theorem poke_draws (s : State) (a : Word) (v : Byte) : (s.poke a v).draws = s.draws := by unfold State.poke; split <;> rfl
@[simp] theorem poke_kindAt (s : State) (a : Word) (v : Byte) (y : Word) : (s.poke a v).kindAt y = s.kindAt y := by
  simp [State.kindAt]
@[simp] theorem poke_sfrIn (s : State) (a : Word) (v : Byte) : (s.poke a v).sfrIn = s.sfrIn := by
  simp [State.sfrIn]

/-! ### `memWrite` -/

@[simp] theorem memWrite_main (s : State) (a : Word) (v : Byte) : (s.memWrite a v).main = s.main := by simp [State.memWrite]
@[simp] theorem memWrite_alt (s : State) (a : Word) (v : Byte) : (s.memWrite a v).alt = s.alt := by simp [State.memWrite]
@[simp] theorem memWrite_ix (s : State) (a : Word) (v : Byte) : (s.memWrite a v).ix = s.ix := by simp [State.memWrite]
@[simp] theorem memWrite_iy (s : State) (a : Word) (v : Byte) : (s.memWrite a v).iy = s.iy := by simp [State.memWrite]
@[simp] theorem memWrite_sp (s : State) (a : Word) (v : Byte) : (s.memWrite a v).sp = s.sp := by simp [State.memWrite]
@[simp] theorem memWrite_pc (s : State) (a : Word) (v : Byte) : (s.memWrite a v).pc = s.pc := by simp [State.memWrite]
@[simp] theorem memWrite_ireg (s : State) (a : Word) (v : Byte) : (s.memWrite a v).ireg = s.ireg := by simp [State.memWrite]
@[simp] theorem memWrite_iff1 (s : State) (a : Word) (v : Byte) : (s.memWrite a v).iff1 = s.iff1 := by simp [State.memWrite]
@[simp] theorem memWrite_iff2 (s : State) (a : Word) (v : Byte) : (s.memWrite a v).iff2 = s.iff2 := by simp [State.memWrite]
@[simp] theorem memWrite_im (s : State) (a : Word) (v : Byte) : (s.memWrite a v).im = s.im := by simp [State.memWrite]
@[simp] theorem memWrite_eiShadow (s : State) (a : Word) (v : Byte) : (s.memWrite a v).eiShadow = s.eiShadow := by simp [State.memWrite]
@[simp] theorem memWrite_nmiPending (s : State) (a : Word) (v : Byte) : (s.memWrite a v).nmiPending = s.nmiPending := by simp [State.memWrite]
@[simp] theorem memWrite_halted (s : State) (a : Word) (v : Byte) : (s.memWrite a v).halted = s.halted := by simp [State.memWrite]
@[simp] theorem memWrite_busGranted (s : State) (a : Word) (v : Byte) : (s.memWrite a v).busGranted = s.busGranted := by simp [State.memWrite]
@[simp] theorem memWrite_debugStopped (s : State) (a : Word) (v : Byte) : (s.memWrite a v).debugStopped = s.debugStopped := by simp [State.memWrite]
@[simp] theorem memWrite_platform (s : State) (a : Word) (v : Byte) : (s.memWrite a v).platform = s.platform := by simp [State.memWrite]
@[simp] theorem memWrite_debugEnable (s : State) (a : Word) (v : Byte) : (s.memWrite a v).debugEnable = s.debugEnable := by simp [State.memWrite]
@[simp] theorem memWrite_inputs (s : State) (a : Word) (v : Byte) : (s.memWrite a v).inputs = s.inputs := by simp [State.memWrite]
@[simp] theorem memWrite_memDataIn (s : State) (a : Word) (v : Byte) : (s.memWrite a v).memDataIn = s.memDataIn := by simp [State.memWrite]
@[simp] theorem memWrite_sfrDataIn (s : State) (a : Word) (v : Byte) : (s.memWrite a v).sfrDataIn = s.sfrDataIn := by simp [State.memWrite]
@[simp] theorem memWrite_draws (s : State) (a : Word) (v : Byte) : (s.memWrite a v).draws = s.draws := by simp [State.memWrite]
@[simp] theorem memWrite_kindAt (s : State) (a : Word) (v : Byte) (y : Word) : (s.memWrite a v).kindAt y = s.kindAt y := by
  simp [State.kindAt]
@[simp] theorem memWrite_sfrIn (s : State) (a : Word) (v : Byte) : (s.memWrite a v).sfrIn = s.sfrIn := by
  simp [State.sfrIn]

/-! ### `memRead16` -/

@[simp] theorem memRead16_main (s : State) (a : Word) : (s.memRead16 a).main = s.main := by simp [State.memRead16]
@[simp] theorem memRead16_alt (s : State) (a : Word) : (s.memRead16 a).alt = s.alt := by simp [State.memRead16]
@[simp] theorem memRead16_ix (s : State) (a : Word) : (s.memRead16 a).ix = s.ix := by simp [State.memRead16]
@[simp] theorem memRead16_iy (s : State) (a : Word) : (s.memRead16 a).iy = s.iy := by simp [State.memRead16]
@[simp] theorem memRead16_sp (s : State) (a : Word) : (s.memRead16 a).sp = s.sp := by simp [State.memRead16]
@[simp] theorem memRead16_pc (s : State) (a : Word) : (s.memRead16 a).pc = s.pc := by simp [State.memRead16]
@[simp] theorem memRead16_ireg (s : State) (a : Word) : (s.memRead16 a).ireg = s.ireg := by simp [State.memRead16]
@[simp] theorem memRead16_iff1 (s : State) (a : Word) : (s.memRead16 a).iff1 = s.iff1 := by simp [State.memRead16]
@[simp] theorem memRead16_iff2 (s : State) (a : Word) : (s.memRead16 a).iff2 = s.iff2 := by simp [State.memRead16]
@[simp] theorem memRead16_im (s : State) (a : Word) : (s.memRead16 a).im = s.im := by simp [State.memRead16]
@[simp] theorem memRead16_eiShadow (s : State) (a : Word) : (s.memRead16 a).eiShadow = s.eiShadow := by simp [State.memRead16]
@[simp] theorem memRead16_nmiPending (s : State) (a : Word) : (s.memRead16 a).nmiPending = s.nmiPending := by simp [State.memRead16]
@[simp] theorem memRead16_halted (s : State) (a : Word) : (s.memRead16 a).halted = s.halted := by simp [State.memRead16]
@[simp] theorem memRead16_busGranted (s : State) (a : Word) : (s.memRead16 a).busGranted = s.busGranted := by simp [State.memRead16]
@[simp] theorem memRead16_debugStopped (s : State) (a : Word) : (s.memRead16 a).debugStopped = s.debugStopped := by simp [State.memRead16]
@[simp] theorem memRead16_mem (s : State) (a : Word) : (s.memRead16 a).mem = s.mem := by simp [State.memRead16]
@[simp] theorem memRead16_platform (s : State) (a : Word) : (s.memRead16 a).platform = s.platform := by simp [State.memRead16]
@[simp] theorem memRead16_debugEnable (s : State) (a : Word) : (s.memRead16 a).debugEnable = s.debugEnable := by simp [State.memRead16]
@[simp] theorem memRead16_inputs (s : State) (a : Word) : (s.memRead16 a).inputs = s.inputs := by simp [State.memRead16]
@[simp] theorem memRead16_sfrDataIn (s : State) (a : Word) : (s.memRead16 a).sfrDataIn = s.sfrDataIn := by simp [State.memRead16]
@[simp] theorem memRead16_kindAt (s : State) (a : Word) (y : Word) : (s.memRead16 a).kindAt y = s.kindAt y := by
  simp [State.kindAt]
@[simp] theorem memRead16_peek (s : State) (a : Word) (y : Word) : (s.memRead16 a).peek y = s.peek y := by
  simp [State.peek]

/-! ### `memWrite16` -/

@[simp] theorem memWrite16_main (s : State) (a w : Word) : (s.memWrite16 a w).main = s.main := by simp [State.memWrite16]
@[simp] theorem memWrite16_alt (s : State) (a w : Word) : (s.memWrite16 a w).alt = s.alt := by simp [State.memWrite16]
@[simp] theorem memWrite16_ix (s : State) (a w : Word) : (s.memWrite16 a w).ix = s.ix := by simp [State.memWrite16]
@[simp] theorem memWrite16_iy (s : State) (a w : Word) : (s.memWrite16 a w).iy = s.iy := by simp [State.memWrite16]
@[simp] theorem memWrite16_sp (s : State) (a w : Word) : (s.memWrite16 a w).sp = s.sp := by simp [State.memWrite16]
@[simp] theorem memWrite16_pc (s : State) (a w : Word) : (s.memWrite16 a w).pc = s.pc := by simp [State.memWrite16]
@[simp] theorem memWrite16_ireg (s : State) (a w : Word) : (s.memWrite16 a w).ireg = s.ireg := by simp [State.memWrite16]
@[simp] theorem memWrite16_iff1 (s : State) (a w : Word) : (s.memWrite16 a w).iff1 = s.iff1 := by simp [State.memWrite16]
@[simp] theorem memWrite16_iff2 (s : State) (a w : Word) : (s.memWrite16 a w).iff2 = s.iff2 := by simp [State.memWrite16]
@[simp] theorem memWrite16_im (s : State) (a w : Word) : (s.memWrite16 a w).im = s.im := by simp [State.memWrite16]
@[simp] theorem memWrite16_eiShadow (s : State) (a w : Word) : (s.memWrite16 a w).eiShadow = s.eiShadow := by simp [State.memWrite16]
@[simp] theorem memWrite16_nmiPending (s : State) (a w : Word) : (s.memWrite16 a w).nmiPending = s.nmiPending := by simp [State.memWrite16]
@[simp] theorem memWrite16_halted (s : State) (a w : Word) : (s.memWrite16 a w).halted = s.halted := by simp [State.memWrite16]
@[simp] theorem memWrite16_busGranted (s : State) (a w : Word) : (s.memWrite16 a w).busGranted = s.busGranted := by simp [State.memWrite16]
@[simp] theorem memWrite16_debugStopped (s : State) (a w : Word) : (s.memWrite16 a w).debugStopped = s.debugStopped := by simp [State.memWrite16]
@[simp] theorem memWrite16_platform (s : State) (a w : Word) : (s.memWrite16 a w).platform = s.platform := by simp [State.memWrite16]
@[simp] theorem memWrite16_debugEnable (s : State) (a w : Word) : (s.memWrite16 a w).debugEnable = s.debugEnable := by simp [State.memWrite16]
@[simp] theorem memWrite16_inputs (s : State) (a w : Word) : (s.memWrite16 a w).inputs = s.inputs := by simp [State.memWrite16]
@[simp] theorem memWrite16_memDataIn (s : State) (a w : Word) : (s.memWrite16 a w).memDataIn = s.memDataIn := by simp [State.memWrite16]
@[simp] theorem memWrite16_sfrDataIn (s : State) (a w : Word) : (s.memWrite16 a w).sfrDataIn = s.sfrDataIn := by simp [State.memWrite16]
@[simp] theorem memWrite16_draws (s : State) (a w : Word) : (s.memWrite16 a w).draws = s.draws := by simp [State.memWrite16]
@[simp] theorem memWrite16_kindAt (s : State) (a w : Word) (y : Word) : (s.memWrite16 a w).kindAt y = s.kindAt y := by
  simp [State.kindAt]
@[simp] theorem memWrite16_sfrIn (s : State) (a w : Word) : (s.memWrite16 a w).sfrIn = s.sfrIn := by
  simp [State.sfrIn]

/-! ### `fetchOpcode` -/

@[simp] theorem fetchOpcode_main (s : State) : (s.fetchOpcode).main = s.main := by simp [State.fetchOpcode]
@[simp] theorem fetchOpcode_alt (s : State) : (s.fetchOpcode).alt = s.alt := by simp [State.fetchOpcode]
@[simp] theorem fetchOpcode_ix (s : State) : (s.fetchOpcode).ix = s.ix := by simp [State.fetchOpcode]
@[simp] theorem fetchOpcode_iy (s : State) : (s.fetchOpcode).iy = s.iy := by simp [State.fetchOpcode]
@[simp] theorem fetchOpcode_sp (s : State) : (s.fetchOpcode).sp = s.sp := by simp [State.fetchOpcode]
@[simp] theorem fetchOpcode_ireg (s : State) : (s.fetchOpcode).ireg = s.ireg := by simp [State.fetchOpcode]
@[simp] theorem fetchOpcode_iff1 (s : State) : (s.fetchOpcode).iff1 = s.iff1 := by simp [State.fetchOpcode]
@[simp] theorem fetchOpcode_iff2 (s : State) : (s.fetchOpcode).iff2 = s.iff2 := by simp [State.fetchOpcode]
@[simp] theorem fetchOpcode_im (s : State) : (s.fetchOpcode).im = s.im := by simp [State.fetchOpcode]
@[simp] theorem fetchOpcode_eiShadow (s : State) : (s.fetchOpcode).eiShadow = s.eiShadow := by simp [State.fetchOpcode]
@[simp] theorem fetchOpcode_nmiPending (s : State) : (s.fetchOpcode).nmiPending = s.nmiPending := by simp [State.fetchOpcode]
@[simp] theorem fetchOpcode_halted (s : State) : (s.fetchOpcode).halted = s.halted := by simp [State.fetchOpcode]
@[simp] theorem fetchOpcode_busGranted (s : State) : (s.fetchOpcode).busGranted = s.busGranted := by simp [State.fetchOpcode]
@[simp] theorem fetchOpcode_debugStopped (s : State) : (s.fetchOpcode).debugStopped = s.debugStopped := by simp [State.fetchOpcode]
@[simp] theorem fetchOpcode_mem (s : State) : (s.fetchOpcode).mem = s.mem := by simp [State.fetchOpcode]
@[simp] theorem fetchOpcode_platform (s : State) : (s.fetchOpcode).platform = s.platform := by simp [State.fetchOpcode]
@[simp] theorem fetchOpcode_debugEnable (s : State) : (s.fetchOpcode).debugEnable = s.debugEnable := by simp [State.fetchOpcode]
@[simp] theorem fetchOpcode_inputs (s : State) : (s.fetchOpcode).inputs = s.inputs := by simp [State.fetchOpcode]
@[simp] theorem fetchOpcode_sfrDataIn (s : State) : (s.fetchOpcode).sfrDataIn = s.sfrDataIn := by simp [State.fetchOpcode]
@[simp] theorem fetchOpcode_kindAt (s : State) (y : Word) : (s.fetchOpcode).kindAt y = s.kindAt y := by
  simp [State.kindAt]
@[simp] theorem fetchOpcode_peek (s : State) (y : Word) : (s.fetchOpcode).peek y = s.peek y := by
  simp [State.peek]

/-! ### `fetchOperand` -/

@[simp] theorem fetchOperand_main (s : State) : (s.fetchOperand).main = s.main := by simp [State.fetchOperand]
@[simp] theorem fetchOperand_alt (s : State) : (s.fetchOperand).alt = s.alt := by simp [State.fetchOperand]
@[simp] theorem fetchOperand_ix (s : State) : (s.fetchOperand).ix = s.ix := by simp [State.fetchOperand]
@[simp] theorem fetchOperand_iy (s : State) : (s.fetchOperand).iy = s.iy := by simp [State.fetchOperand]
@[simp] theorem fetchOperand_sp (s : State) : (s.fetchOperand).sp = s.sp := by simp [State.fetchOperand]
@[simp] theorem fetchOperand_ireg (s : State) : (s.fetchOperand).ireg = s.ireg := by simp [State.fetchOperand]
@[simp] theorem fetchOperand_iff1 (s : State) : (s.fetchOperand).iff1 = s.iff1 := by simp [State.fetchOperand]
@[simp] theorem fetchOperand_iff2 (s : State) : (s.fetchOperand).iff2 = s.iff2 := by simp [State.fetchOperand]
@[simp] theorem fetchOperand_im (s : State) : (s.fetchOperand).im = s.im := by simp [State.fetchOperand]
@[simp] theorem fetchOperand_eiShadow (s : State) : (s.fetchOperand).eiShadow = s.eiShadow := by simp [State.fetchOperand]
@[simp] theorem fetchOperand_nmiPending (s : State) : (s.fetchOperand).nmiPending = s.nmiPending := by simp [State.fetchOperand]
@[simp] theorem fetchOperand_halted (s : State) : (s.fetchOperand).halted = s.halted := by simp [State.fetchOperand]
@[simp] theorem fetchOperand_busGranted (s : State) : (s.fetchOperand).busGranted = s.busGranted := by simp [State.fetchOperand]
@[simp] theorem fetchOperand_debugStopped (s : State) : (s.fetchOperand).debugStopped = s.debugStopped := by simp [State.fetchOperand]
@[simp] theorem fetchOperand_mem (s : State) : (s.fetchOperand).mem = s.mem := by simp [State.fetchOperand]
@[simp] theorem fetchOperand_platform (s : State) : (s.fetchOperand).platform = s.platform := by simp [State.fetchOperand]
@[simp] theorem fetchOperand_debugEnable (s : State) : (s.fetchOperand).debugEnable = s.debugEnable := by simp [State.fetchOperand]
@[simp] theorem fetchOperand_inputs (s : State) : (s.fetchOperand).inputs = s.inputs := by simp [State.fetchOperand]
@[simp] theorem fetchOperand_sfrDataIn (s : State) : (s.fetchOperand).sfrDataIn = s.sfrDataIn := by simp [State.fetchOperand]
@[simp] theorem fetchOperand_kindAt (s : State) (y : Word) : (s.fetchOperand).kindAt y = s.kindAt y := by
  simp [State.kindAt]
@[simp] theorem fetchOperand_peek (s : State) (y : Word) : (s.fetchOperand).peek y = s.peek y := by
  simp [State.peek]

/-! ### `fetchFinal` -/

@[simp] theorem fetchFinal_main (s : State) : (s.fetchFinal).main = s.main := by
  unfold State.fetchFinal; split <;> simp
@[simp] theorem fetchFinal_alt (s : State) : (s.fetchFinal).alt = s.alt := by
  unfold State.fetchFinal; split <;> simp
@[simp] theorem fetchFinal_ix (s : State) : (s.fetchFinal).ix = s.ix := by
  unfold State.fetchFinal; split <;> simp
@[simp] theorem fetchFinal_iy (s : State) : (s.fetchFinal).iy = s.iy := by
  unfold State.fetchFinal; split <;> simp
@[simp] theorem fetchFinal_sp (s : State) : (s.fetchFinal).sp = s.sp := by
  unfold State.fetchFinal; split <;> simp
@[simp] theorem fetchFinal_ireg (s : State) : (s.fetchFinal).ireg = s.ireg := by
  unfold State.fetchFinal; split <;> simp
@[simp] theorem fetchFinal_iff1 (s : State) : (s.fetchFinal).iff1 = s.iff1 := by
  unfold State.fetchFinal; split <;> simp
@[simp] theorem fetchFinal_iff2 (s : State) : (s.fetchFinal).iff2 = s.iff2 := by
  unfold State.fetchFinal; split <;> simp
@[simp] theorem fetchFinal_im (s : State) : (s.fetchFinal).im = s.im := by
  unfold State.fetchFinal; split <;> simp
@[simp] theorem fetchFinal_eiShadow (s : State) : (s.fetchFinal).eiShadow = s.eiShadow := by
  unfold State.fetchFinal; split <;> simp
@[simp] theorem fetchFinal_nmiPending (s : State) : (s.fetchFinal).nmiPending = s.nmiPending := by
  unfold State.fetchFinal; split <;> simp
@[simp] theorem fetchFinal_halted (s : State) : (s.fetchFinal).halted = s.halted := by
  unfold State.fetchFinal; split <;> simp
@[simp] theorem fetchFinal_busGranted (s : State) : (s.fetchFinal).busGranted = s.busGranted := by
  unfold State.fetchFinal; split <;> simp
@[simp] theorem fetchFinal_debugStopped (s : State) : (s.fetchFinal).debugStopped = s.debugStopped := by
  unfold State.fetchFinal; split <;> simp
@[simp] theorem fetchFinal_mem (s : State) : (s.fetchFinal).mem = s.mem := by
  unfold State.fetchFinal; split <;> simp
@[simp] theorem fetchFinal_platform (s : State) : (s.fetchFinal).platform = s.platform := by
  unfold State.fetchFinal; split <;> simp
@[simp] theorem fetchFinal_debugEnable (s : State) : (s.fetchFinal).debugEnable = s.debugEnable := by
  unfold State.fetchFinal; split <;> simp
@[simp] theorem fetchFinal_inputs (s : State) : (s.fetchFinal).inputs = s.inputs := by
  unfold State.fetchFinal; split <;> simp
@[simp] theorem fetchFinal_sfrDataIn (s : State) : (s.fetchFinal).sfrDataIn = s.sfrDataIn := by
  unfold State.fetchFinal; split <;> simp
@[simp] theorem fetchFinal_kindAt (s : State) (y : Word) : (s.fetchFinal).kindAt y = s.kindAt y := by
  unfold State.fetchFinal; split <;> simp
@[simp] theorem fetchFinal_peek (s : State) (y : Word) : (s.fetchFinal).peek y = s.peek y := by
  unfold State.fetchFinal; split <;> simp

/-! ### `push16` -/

@[simp] theorem push16_main (s : State) (w : Word) : (s.push16 w).main = s.main := by simp [State.push16]
@[simp] theorem push16_alt (s : State) (w : Word) : (s.push16 w).alt = s.alt := by simp [State.push16]
@[simp] theorem push16_ix (s : State) (w : Word) : (s.push16 w).ix = s.ix := by simp [State.push16]
@[simp] theorem push16_iy (s : State) (w : Word) : (s.push16 w).iy = s.iy := by simp [State.push16]
@[simp] theorem push16_pc (s : State) (w : Word) : (s.push16 w).pc = s.pc := by simp [State.push16]
@[simp] theorem push16_ireg (s : State) (w : Word) : (s.push16 w).ireg = s.ireg := by simp [State.push16]
@[simp] theorem push16_iff1 (s : State) (w : Word) : (s.push16 w).iff1 = s.iff1 := by simp [State.push16]
@[simp] theorem push16_iff2 (s : State) (w : Word) : (s.push16 w).iff2 = s.iff2 := by simp [State.push16]
@[simp] theorem push16_im (s : State) (w : Word) : (s.push16 w).im = s.im := by simp [State.push16]
@[simp] theorem push16_eiShadow (s : State) (w : Word) : (s.push16 w).eiShadow = s.eiShadow := by simp [State.push16]
@[simp] theorem push16_nmiPending (s : State) (w : Word) : (s.push16 w).nmiPending = s.nmiPending := by simp [State.push16]
@[simp] theorem push16_halted (s : State) (w : Word) : (s.push16 w).halted = s.halted := by simp [State.push16]
@[simp] theorem push16_busGranted (s : State) (w : Word) : (s.push16 w).busGranted = s.busGranted := by simp [State.push16]
@[simp] theorem push16_debugStopped (s : State) (w : Word) : (s.push16 w).debugStopped = s.debugStopped := by simp [State.push16]
@[simp] theorem push16_platform (s : State) (w : Word) : (s.push16 w).platform = s.platform := by simp [State.push16]
@[simp] theorem push16_debugEnable (s : State) (w : Word) : (s.push16 w).debugEnable = s.debugEnable := by simp [State.push16]
@[simp] theorem push16_inputs (s : State) (w : Word) : (s.push16 w).inputs = s.inputs := by simp [State.push16]
@[simp] theorem push16_memDataIn (s : State) (w : Word) : (s.push16 w).memDataIn = s.memDataIn := by simp [State.push16]
@[simp] theorem push16_sfrDataIn (s : State) (w : Word) : (s.push16 w).sfrDataIn = s.sfrDataIn := by simp [State.push16]
@[simp] theorem push16_draws (s : State) (w : Word) : (s.push16 w).draws = s.draws := by simp [State.push16]
@[simp] theorem push16_kindAt (s : State) (w : Word) (y : Word) : (s.push16 w).kindAt y = s.kindAt y := by
  simp [State.kindAt]
@[simp] theorem push16_sfrIn (s : State) (w : Word) : (s.push16 w).sfrIn = s.sfrIn := by
  simp [State.sfrIn]

/-! ### `pop16` -/

@[simp] theorem pop16_main (s : State) : (s.pop16).main = s.main := by simp [State.pop16]
@[simp] theorem pop16_alt (s : State) : (s.pop16).alt = s.alt := by simp [State.pop16]
@[simp] theorem pop16_ix (s : State) : (s.pop16).ix = s.ix := by simp [State.pop16]
@[simp] theorem pop16_iy (s : State) : (s.pop16).iy = s.iy := by simp [State.pop16]
@[simp] theorem pop16_pc (s : State) : (s.pop16).pc = s.pc := by simp [State.pop16]
@[simp] theorem pop16_ireg (s : State) : (s.pop16).ireg = s.ireg := by simp [State.pop16]
@[simp] theorem pop16_iff1 (s : State) : (s.pop16).iff1 = s.iff1 := by simp [State.pop16]
@[simp] theorem pop16_iff2 (s : State) : (s.pop16).iff2 = s.iff2 := by simp [State.pop16]
@[simp] theorem pop16_im (s : State) : (s.pop16).im = s.im := by simp [State.pop16]
@[simp] theorem pop16_eiShadow (s : State) : (s.pop16).eiShadow = s.eiShadow := by simp [State.pop16]
@[simp] theorem pop16_nmiPending (s : State) : (s.pop16).nmiPending = s.nmiPending := by simp [State.pop16]
@[simp] theorem pop16_halted (s : State) : (s.pop16).halted = s.halted := by simp [State.pop16]
@[simp] theorem pop16_busGranted (s : State) : (s.pop16).busGranted = s.busGranted := by simp [State.pop16]
@[simp] theorem pop16_debugStopped (s : State) : (s.pop16).debugStopped = s.debugStopped := by simp [State.pop16]
@[simp] theorem pop16_mem (s : State) : (s.pop16).mem = s.mem := by simp [State.pop16]
@[simp] theorem pop16_platform (s : State) : (s.pop16).platform = s.platform := by simp [State.pop16]
@[simp] theorem pop16_debugEnable (s : State) : (s.pop16).debugEnable = s.debugEnable := by simp [State.pop16]
@[simp] theorem pop16_inputs (s : State) : (s.pop16).inputs = s.inputs := by simp [State.pop16]
@[simp] theorem pop16_sfrDataIn (s : State) : (s.pop16).sfrDataIn = s.sfrDataIn := by simp [State.pop16]
@[simp] theorem pop16_kindAt (s : State) (y : Word) : (s.pop16).kindAt y = s.kindAt y := by
  simp [State.kindAt]
@[simp] theorem pop16_peek (s : State) (y : Word) : (s.pop16).peek y = s.peek y := by
  simp [State.peek]

/-! ### `popPc` -/

@[simp] theorem popPc_main (s : State) : (s.popPc).main = s.main := by simp [State.popPc]
@[simp] theorem popPc_alt (s : State) : (s.popPc).alt = s.alt := by simp [State.popPc]
@[simp] theorem popPc_ix (s : State) : (s.popPc).ix = s.ix := by simp [State.popPc]
@[simp] theorem popPc_iy (s : State) : (s.popPc).iy = s.iy := by simp [State.popPc]
@[simp] theorem popPc_ireg (s : State) : (s.popPc).ireg = s.ireg := by simp [State.popPc]
@[simp] theorem popPc_iff1 (s : State) : (s.popPc).iff1 = s.iff1 := by simp [State.popPc]
@[simp] theorem popPc_iff2 (s : State) : (s.popPc).iff2 = s.iff2 := by simp [State.popPc]
@[simp] theorem popPc_im (s : State) : (s.popPc).im = s.im := by simp [State.popPc]
@[simp] theorem popPc_eiShadow (s : State) : (s.popPc).eiShadow = s.eiShadow := by simp [State.popPc]
@[simp] theorem popPc_nmiPending (s : State) : (s.popPc).nmiPending = s.nmiPending := by simp [State.popPc]
@[simp] theorem popPc_halted (s : State) : (s.popPc).halted = s.halted := by simp [State.popPc]
@[simp] theorem popPc_busGranted (s : State) : (s.popPc).busGranted = s.busGranted := by simp [State.popPc]
@[simp] theorem popPc_debugStopped (s : State) : (s.popPc).debugStopped = s.debugStopped := by simp [State.popPc]
@[simp] theorem popPc_mem (s : State) : (s.popPc).mem = s.mem := by simp [State.popPc]
@[simp] theorem popPc_platform (s : State) : (s.popPc).platform = s.platform := by simp [State.popPc]
@[simp] theorem popPc_debugEnable (s : State) : (s.popPc).debugEnable = s.debugEnable := by simp [State.popPc]
@[simp] theorem popPc_inputs (s : State) : (s.popPc).inputs = s.inputs := by simp [State.popPc]
@[simp] theorem popPc_sfrDataIn (s : State) : (s.popPc).sfrDataIn = s.sfrDataIn := by simp [State.popPc]
@[simp] theorem popPc_kindAt (s : State) (y : Word) : (s.popPc).kindAt y = s.kindAt y := by
  simp [State.kindAt]
@[simp] theorem popPc_peek (s : State) (y : Word) : (s.popPc).peek y = s.peek y := by
  simp [State.peek]

/-! ### `tookSfrData` -/

@[simp] theorem tookSfrData_main (s : State) : (s.tookSfrData).main = s.main := by unfold State.tookSfrData; split <;> rfl
@[simp] theorem tookSfrData_alt (s : State) : (s.tookSfrData).alt = s.alt := by unfold State.tookSfrData; split <;> rfl
@[simp] theorem tookSfrData_ix (s : State) : (s.tookSfrData).ix = s.ix := by unfold State.tookSfrData; split <;> rfl
@[simp] theorem tookSfrData_iy (s : State) : (s.tookSfrData).iy = s.iy := by unfold State.tookSfrData; split <;> rfl
@[simp] theorem tookSfrData_sp (s : State) : (s.tookSfrData).sp = s.sp := by unfold State.tookSfrData; split <;> rfl
@[simp] theorem tookSfrData_pc (s : State) : (s.tookSfrData).pc = s.pc := by unfold State.tookSfrData; split <;> rfl
@[simp] theorem tookSfrData_ireg (s : State) : (s.tookSfrData).ireg = s.ireg := by unfold State.tookSfrData; split <;> rfl
@[simp] theorem tookSfrData_iff1 (s : State) : (s.tookSfrData).iff1 = s.iff1 := by unfold State.tookSfrData; split <;> rfl
@[simp] theorem tookSfrData_iff2 (s : State) : (s.tookSfrData).iff2 = s.iff2 := by unfold State.tookSfrData; split <;> rfl
@[simp] theorem tookSfrData_im (s : State) : (s.tookSfrData).im = s.im := by unfold State.tookSfrData; split <;> rfl
@[simp] theorem tookSfrData_eiShadow (s : State) : (s.tookSfrData).eiShadow = s.eiShadow := by unfold State.tookSfrData; split <;> rfl
@[simp] theorem tookSfrData_nmiPending (s : State) : (s.tookSfrData).nmiPending = s.nmiPending := by unfold State.tookSfrData; split <;> rfl
@[simp] theorem tookSfrData_halted (s : State) : (s.tookSfrData).halted = s.halted := by unfold State.tookSfrData; split <;> rfl
@[simp] theorem tookSfrData_busGranted (s : State) : (s.tookSfrData).busGranted = s.busGranted := by unfold State.tookSfrData; split <;> rfl
@[simp] theorem tookSfrData_debugStopped (s : State) : (s.tookSfrData).debugStopped = s.debugStopped := by unfold State.tookSfrData; split <;> rfl
@[simp] theorem tookSfrData_mem (s : State) : (s.tookSfrData).mem = s.mem := by unfold State.tookSfrData; split <;> rfl
@[simp] theorem tookSfrData_platform (s : State) : (s.tookSfrData).platform = s.platform := by unfold State.tookSfrData; split <;> rfl
@[simp] theorem tookSfrData_debugEnable (s : State) : (s.tookSfrData).debugEnable = s.debugEnable := by unfold State.tookSfrData; split <;> rfl
@[simp] theorem tookSfrData_inputs (s : State) : (s.tookSfrData).inputs = s.inputs := by unfold State.tookSfrData; split <;> rfl
@[simp] theorem tookSfrData_memDataIn (s : State) : (s.tookSfrData).memDataIn = s.memDataIn := by unfold State.tookSfrData; split <;> rfl
@[simp] theorem tookSfrData_bus (s : State) : (s.tookSfrData).bus = s.bus := by unfold State.tookSfrData; split <;> rfl
@[simp] theorem tookSfrData_kindAt (s : State) (y : Word) : (s.tookSfrData).kindAt y = s.kindAt y := by
  simp [State.kindAt]
@[simp] theorem tookSfrData_peek (s : State) (y : Word) : (s.tookSfrData).peek y = s.peek y := by
  simp [State.peek]

/-! ### `ioRead` -/

@[simp] theorem ioRead_main (s : State) (p : Word) : (s.ioRead p).main = s.main := by simp [State.ioRead]
@[simp] theorem ioRead_alt (s : State) (p : Word) : (s.ioRead p).alt = s.alt := by simp [State.ioRead]
@[simp] theorem ioRead_ix (s : State) (p : Word) : (s.ioRead p).ix = s.ix := by simp [State.ioRead]
@[simp] theorem ioRead_iy (s : State) (p : Word) : (s.ioRead p).iy = s.iy := by simp [State.ioRead]
@[simp] theorem ioRead_sp (s : State) (p : Word) : (s.ioRead p).sp = s.sp := by simp [State.ioRead]
@[simp] theorem ioRead_pc (s : State) (p : Word) : (s.ioRead p).pc = s.pc := by simp [State.ioRead]
@[simp] theorem ioRead_ireg (s : State) (p : Word) : (s.ioRead p).ireg = s.ireg := by simp [State.ioRead]
@[simp] theorem ioRead_iff1 (s : State) (p : Word) : (s.ioRead p).iff1 = s.iff1 := by simp [State.ioRead]
@[simp] theorem ioRead_iff2 (s : State) (p : Word) : (s.ioRead p).iff2 = s.iff2 := by simp [State.ioRead]
@[simp] theorem ioRead_im (s : State) (p : Word) : (s.ioRead p).im = s.im := by simp [State.ioRead]
@[simp] theorem ioRead_eiShadow (s : State) (p : Word) : (s.ioRead p).eiShadow = s.eiShadow := by simp [State.ioRead]
@[simp] theorem ioRead_nmiPending (s : State) (p : Word) : (s.ioRead p).nmiPending = s.nmiPending := by simp [State.ioRead]
@[simp] theorem ioRead_halted (s : State) (p : Word) : (s.ioRead p).halted = s.halted := by simp [State.ioRead]
@[simp] theorem ioRead_busGranted (s : State) (p : Word) : (s.ioRead p).busGranted = s.busGranted := by simp [State.ioRead]
@[simp] theorem ioRead_debugStopped (s : State) (p : Word) : (s.ioRead p).debugStopped = s.debugStopped := by simp [State.ioRead]
@[simp] theorem ioRead_mem (s : State) (p : Word) : (s.ioRead p).mem = s.mem := by simp [State.ioRead]
@[simp] theorem ioRead_platform (s : State) (p : Word) : (s.ioRead p).platform = s.platform := by simp [State.ioRead]
@[simp] theorem ioRead_debugEnable (s : State) (p : Word) : (s.ioRead p).debugEnable = s.debugEnable := by simp [State.ioRead]
@[simp] theorem ioRead_inputs (s : State) (p : Word) : (s.ioRead p).inputs = s.inputs := by simp [State.ioRead]
@[simp] theorem ioRead_memDataIn (s : State) (p : Word) : (s.ioRead p).memDataIn = s.memDataIn := by simp [State.ioRead]
@[simp] theorem ioRead_kindAt (s : State) (p : Word) (y : Word) : (s.ioRead p).kindAt y = s.kindAt y := by
  simp [State.kindAt]
@[simp] theorem ioRead_peek (s : State) (p : Word) (y : Word) : (s.ioRead p).peek y = s.peek y := by
  simp [State.peek]

/-! ### `ioWrite` -/

@[simp] theorem ioWrite_main (s : State) (p : Word) (v : Byte) : (s.ioWrite p v).main = s.main := rfl
@[simp] theorem ioWrite_alt (s : State) (p : Word) (v : Byte) : (s.ioWrite p v).alt = s.alt := rfl
@[simp] theorem ioWrite_ix (s : State) (p : Word) (v : Byte) : (s.ioWrite p v).ix = s.ix := rfl
@[simp] theorem ioWrite_iy (s : State) (p : Word) (v : Byte) : (s.ioWrite p v).iy = s.iy := rfl
@[simp] theorem ioWrite_sp (s : State) (p : Word) (v : Byte) : (s.ioWrite p v).sp = s.sp := rfl
@[simp] theorem ioWrite_pc (s : State) (p : Word) (v : Byte) : (s.ioWrite p v).pc = s.pc := rfl
@[simp] theorem ioWrite_ireg (s : State) (p : Word) (v : Byte) : (s.ioWrite p v).ireg = s.ireg := rfl
@[simp] theorem ioWrite_iff1 (s : State) (p : Word) (v : Byte) : (s.ioWrite p v).iff1 = s.iff1 := rfl
@[simp] theorem ioWrite_iff2 (s : State) (p : Word) (v : Byte) : (s.ioWrite p v).iff2 = s.iff2 := rfl
@[simp] theorem ioWrite_im (s : State) (p : Word) (v : Byte) : (s.ioWrite p v).im = s.im := rfl
@[simp] theorem ioWrite_eiShadow (s : State) (p : Word) (v : Byte) : (s.ioWrite p v).eiShadow = s.eiShadow := rfl
@[simp] theorem ioWrite_nmiPending (s : State) (p : Word) (v : Byte) : (s.ioWrite p v).nmiPending = s.nmiPending := rfl
@[simp] theorem ioWrite_halted (s : State) (p : Word) (v : Byte) : (s.ioWrite p v).halted = s.halted := rfl
@[simp] theorem ioWrite_busGranted (s : State) (p : Word) (v : Byte) : (s.ioWrite p v).busGranted = s.busGranted := rfl
@[simp] theorem ioWrite_debugStopped (s : State) (p : Word) (v : Byte) : (s.ioWrite p v).debugStopped = s.debugStopped := rfl
@[simp] theorem ioWrite_mem (s : State) (p : Word) (v : Byte) : (s.ioWrite p v).mem = s.mem := rfl
@[simp] theorem ioWrite_platform (s : State) (p : Word) (v : Byte) : (s.ioWrite p v).platform = s.platform := rfl
@[simp] theorem ioWrite_debugEnable (s : State) (p : Word) (v : Byte) : (s.ioWrite p v).debugEnable = s.debugEnable := rfl
@[simp] theorem ioWrite_inputs (s : State) (p : Word) (v : Byte) : (s.ioWrite p v).inputs = s.inputs := rfl
@[simp] theorem ioWrite_memDataIn (s : State) (p : Word) (v : Byte) : (s.ioWrite p v).memDataIn = s.memDataIn := rfl
@[simp] theorem ioWrite_sfrDataIn (s : State) (p : Word) (v : Byte) : (s.ioWrite p v).sfrDataIn = s.sfrDataIn := rfl
@[simp] theorem ioWrite_draws (s : State) (p : Word) (v : Byte) : (s.ioWrite p v).draws = s.draws := rfl
@[simp] theorem ioWrite_kindAt (s : State) (p : Word) (v : Byte) (y : Word) : (s.ioWrite p v).kindAt y = s.kindAt y := by
  simp [State.kindAt]
@[simp] theorem ioWrite_peek (s : State) (p : Word) (v : Byte) (y : Word) : (s.ioWrite p v).peek y = s.peek y := by
  simp [State.peek]
@[simp] theorem ioWrite_memIn (s : State) (p : Word) (v : Byte) (y : Word) : (s.ioWrite p v).memIn y = s.memIn y := by
  simp [State.memIn]
@[simp] theorem ioWrite_sfrIn (s : State) (p : Word) (v : Byte) : (s.ioWrite p v).sfrIn = s.sfrIn := by
  simp [State.sfrIn]

/-! ### `operandRead` -/

@[simp] theorem operandRead_main (s : State) (o : Operand) : (s.operandRead o).main = s.main := by cases o <;> simp [State.operandRead]
@[simp] theorem operandRead_alt (s : State) (o : Operand) : (s.operandRead o).alt = s.alt := by cases o <;> simp [State.operandRead]
@[simp] theorem operandRead_ix (s : State) (o : Operand) : (s.operandRead o).ix = s.ix := by cases o <;> simp [State.operandRead]
@[simp] theorem operandRead_iy (s : State) (o : Operand) : (s.operandRead o).iy = s.iy := by cases o <;> simp [State.operandRead]
@[simp] theorem operandRead_sp (s : State) (o : Operand) : (s.operandRead o).sp = s.sp := by cases o <;> simp [State.operandRead]
@[simp] theorem operandRead_pc (s : State) (o : Operand) : (s.operandRead o).pc = s.pc := by cases o <;> simp [State.operandRead]
@[simp] theorem operandRead_ireg (s : State) (o : Operand) : (s.operandRead o).ireg = s.ireg := by cases o <;> simp [State.operandRead]
@[simp] theorem operandRead_iff1 (s : State) (o : Operand) : (s.operandRead o).iff1 = s.iff1 := by cases o <;> simp [State.operandRead]
@[simp] theorem operandRead_iff2 (s : State) (o : Operand) : (s.operandRead o).iff2 = s.iff2 := by cases o <;> simp [State.operandRead]
@[simp] theorem operandRead_im (s : State) (o : Operand) : (s.operandRead o).im = s.im := by cases o <;> simp [State.operandRead]
@[simp] theorem operandRead_eiShadow (s : State) (o : Operand) : (s.operandRead o).eiShadow = s.eiShadow := by cases o <;> simp [State.operandRead]
@[simp] theorem operandRead_nmiPending (s : State) (o : Operand) : (s.operandRead o).nmiPending = s.nmiPending := by cases o <;> simp [State.operandRead]
@[simp] theorem operandRead_halted (s : State) (o : Operand) : (s.operandRead o).halted = s.halted := by cases o <;> simp [State.operandRead]
@[simp] theorem operandRead_busGranted (s : State) (o : Operand) : (s.operandRead o).busGranted = s.busGranted := by cases o <;> simp [State.operandRead]
@[simp] theorem operandRead_debugStopped (s : State) (o : Operand) : (s.operandRead o).debugStopped = s.debugStopped := by cases o <;> simp [State.operandRead]
@[simp] theorem operandRead_mem (s : State) (o : Operand) : (s.operandRead o).mem = s.mem := by cases o <;> simp [State.operandRead]
@[simp] theorem operandRead_platform (s : State) (o : Operand) : (s.operandRead o).platform = s.platform := by cases o <;> simp [State.operandRead]
@[simp] theorem operandRead_debugEnable (s : State) (o : Operand) : (s.operandRead o).debugEnable = s.debugEnable := by cases o <;> simp [State.operandRead]
@[simp] theorem operandRead_inputs (s : State) (o : Operand) : (s.operandRead o).inputs = s.inputs := by cases o <;> simp [State.operandRead]
@[simp] theorem operandRead_sfrDataIn (s : State) (o : Operand) : (s.operandRead o).sfrDataIn = s.sfrDataIn := by cases o <;> simp [State.operandRead]
@[simp] theorem operandRead_kindAt (s : State) (o : Operand) (y : Word) : (s.operandRead o).kindAt y = s.kindAt y := by
  simp [State.kindAt]
@[simp] theorem operandRead_peek (s : State) (o : Operand) (y : Word) : (s.operandRead o).peek y = s.peek y := by
  simp [State.peek]

/-! ### `enterAt` -/

@[simp] theorem enterAt_main (s : State) (w : Word) : (s.enterAt w).main = s.main := by simp [State.enterAt]
@[simp] theorem enterAt_alt (s : State) (w : Word) : (s.enterAt w).alt = s.alt := by simp [State.enterAt]
@[simp] theorem enterAt_ix (s : State) (w : Word) : (s.enterAt w).ix = s.ix := by simp [State.enterAt]
@[simp] theorem enterAt_iy (s : State) (w : Word) : (s.enterAt w).iy = s.iy := by simp [State.enterAt]
@[simp] theorem enterAt_ireg (s : State) (w : Word) : (s.enterAt w).ireg = s.ireg := by simp [State.enterAt]
@[simp] theorem enterAt_iff1 (s : State) (w : Word) : (s.enterAt w).iff1 = s.iff1 := by simp [State.enterAt]
@[simp] theorem enterAt_iff2 (s : State) (w : Word) : (s.enterAt w).iff2 = s.iff2 := by simp [State.enterAt]
@[simp] theorem enterAt_im (s : State) (w : Word) : (s.enterAt w).im = s.im := by simp [State.enterAt]
@[simp] theorem enterAt_eiShadow (s : State) (w : Word) : (s.enterAt w).eiShadow = s.eiShadow := by simp [State.enterAt]
@[simp] theorem enterAt_nmiPending (s : State) (w : Word) : (s.enterAt w).nmiPending = s.nmiPending := by simp [State.enterAt]
@[simp] theorem enterAt_halted (s : State) (w : Word) : (s.enterAt w).halted = s.halted := by simp [State.enterAt]
@[simp] theorem enterAt_busGranted (s : State) (w : Word) : (s.enterAt w).busGranted = s.busGranted := by simp [State.enterAt]
@[simp] theorem enterAt_debugStopped (s : State) (w : Word) : (s.enterAt w).debugStopped = s.debugStopped := by simp [State.enterAt]
@[simp] theorem enterAt_platform (s : State) (w : Word) : (s.enterAt w).platform = s.platform := by simp [State.enterAt]
@[simp] theorem enterAt_debugEnable (s : State) (w : Word) : (s.enterAt w).debugEnable = s.debugEnable := by simp [State.enterAt]
@[simp] theorem enterAt_inputs (s : State) (w : Word) : (s.enterAt w).inputs = s.inputs := by simp [State.enterAt]
@[simp] theorem enterAt_memDataIn (s : State) (w : Word) : (s.enterAt w).memDataIn = s.memDataIn := by simp [State.enterAt]
@[simp] theorem enterAt_sfrDataIn (s : State) (w : Word) : (s.enterAt w).sfrDataIn = s.sfrDataIn := by simp [State.enterAt]
@[simp] theorem enterAt_draws (s : State) (w : Word) : (s.enterAt w).draws = s.draws := by simp [State.enterAt]
@[simp] theorem enterAt_kindAt (s : State) (w : Word) (y : Word) : (s.enterAt w).kindAt y = s.kindAt y := by
  simp [State.kindAt]
@[simp] theorem enterAt_sfrIn (s : State) (w : Word) : (s.enterAt w).sfrIn = s.sfrIn := by
  simp [State.sfrIn]

/-! ### `beginEntry` -/

@[simp] theorem beginEntry_main (s : State) : (s.beginEntry).main = s.main := rfl
@[simp] theorem beginEntry_alt (s : State) : (s.beginEntry).alt = s.alt := rfl
@[simp] theorem beginEntry_ix (s : State) : (s.beginEntry).ix = s.ix := rfl
@[simp] theorem beginEntry_iy (s : State) : (s.beginEntry).iy = s.iy := rfl
@[simp] theorem beginEntry_sp (s : State) : (s.beginEntry).sp = s.sp := rfl
@[simp] theorem beginEntry_pc (s : State) : (s.beginEntry).pc = s.pc := rfl
@[simp] theorem beginEntry_ireg (s : State) : (s.beginEntry).ireg = s.ireg := rfl
@[simp] theorem beginEntry_iff2 (s : State) : (s.beginEntry).iff2 = s.iff2 := rfl
@[simp] theorem beginEntry_im (s : State) : (s.beginEntry).im = s.im := rfl
@[simp] theorem beginEntry_nmiPending (s : State) : (s.beginEntry).nmiPending = s.nmiPending := rfl
@[simp] theorem beginEntry_busGranted (s : State) : (s.beginEntry).busGranted = s.busGranted := rfl
@[simp] theorem beginEntry_debugStopped (s : State) : (s.beginEntry).debugStopped = s.debugStopped := rfl
@[simp] theorem beginEntry_mem (s : State) : (s.beginEntry).mem = s.mem := rfl
@[simp] theorem beginEntry_platform (s : State) : (s.beginEntry).platform = s.platform := rfl
@[simp] theorem beginEntry_debugEnable (s : State) : (s.beginEntry).debugEnable = s.debugEnable := rfl
@[simp] theorem beginEntry_inputs (s : State) : (s.beginEntry).inputs = s.inputs := rfl
@[simp] theorem beginEntry_memDataIn (s : State) : (s.beginEntry).memDataIn = s.memDataIn := rfl
@[simp] theorem beginEntry_sfrDataIn (s : State) : (s.beginEntry).sfrDataIn = s.sfrDataIn := rfl
@[simp] theorem beginEntry_bus (s : State) : (s.beginEntry).bus = s.bus := rfl
@[simp] theorem beginEntry_draws (s : State) : (s.beginEntry).draws = s.draws := rfl
@[simp] theorem beginEntry_kindAt (s : State) (y : Word) : (s.beginEntry).kindAt y = s.kindAt y := by
  simp [State.kindAt]
@[simp] theorem beginEntry_peek (s : State) (y : Word) : (s.beginEntry).peek y = s.peek y := by
  simp [State.peek]
@[simp] theorem beginEntry_memIn (s : State) (y : Word) : (s.beginEntry).memIn y = s.memIn y := by
  simp [State.memIn]
@[simp] theorem beginEntry_sfrIn (s : State) : (s.beginEntry).sfrIn = s.sfrIn := by
  simp [State.sfrIn]

/-! ### `intAck` -/

@[simp] theorem intAck_main (s : State) : (s.intAck).main = s.main := by simp [State.intAck]
@[simp] theorem intAck_alt (s : State) : (s.intAck).alt = s.alt := by simp [State.intAck]
@[simp] theorem intAck_ix (s : State) : (s.intAck).ix = s.ix := by simp [State.intAck]
@[simp] theorem intAck_iy (s : State) : (s.intAck).iy = s.iy := by simp [State.intAck]
@[simp] theorem intAck_sp (s : State) : (s.intAck).sp = s.sp := by simp [State.intAck]
@[simp] theorem intAck_pc (s : State) : (s.intAck).pc = s.pc := by simp [State.intAck]
@[simp] theorem intAck_ireg (s : State) : (s.intAck).ireg = s.ireg := by simp [State.intAck]
@[simp] theorem intAck_iff1 (s : State) : (s.intAck).iff1 = s.iff1 := by simp [State.intAck]
@[simp] theorem intAck_iff2 (s : State) : (s.intAck).iff2 = s.iff2 := by simp [State.intAck]
@[simp] theorem intAck_im (s : State) : (s.intAck).im = s.im := by simp [State.intAck]
@[simp] theorem intAck_eiShadow (s : State) : (s.intAck).eiShadow = s.eiShadow := by simp [State.intAck]
@[simp] theorem intAck_nmiPending (s : State) : (s.intAck).nmiPending = s.nmiPending := by simp [State.intAck]
@[simp] theorem intAck_halted (s : State) : (s.intAck).halted = s.halted := by simp [State.intAck]
@[simp] theorem intAck_busGranted (s : State) : (s.intAck).busGranted = s.busGranted := by simp [State.intAck]
@[simp] theorem intAck_debugStopped (s : State) : (s.intAck).debugStopped = s.debugStopped := by simp [State.intAck]
@[simp] theorem intAck_mem (s : State) : (s.intAck).mem = s.mem := by simp [State.intAck]
@[simp] theorem intAck_platform (s : State) : (s.intAck).platform = s.platform := by simp [State.intAck]
@[simp] theorem intAck_debugEnable (s : State) : (s.intAck).debugEnable = s.debugEnable := by simp [State.intAck]
@[simp] theorem intAck_inputs (s : State) : (s.intAck).inputs = s.inputs := by simp [State.intAck]
@[simp] theorem intAck_memDataIn (s : State) : (s.intAck).memDataIn = s.memDataIn := by simp [State.intAck]
@[simp] theorem intAck_kindAt (s : State) (y : Word) : (s.intAck).kindAt y = s.kindAt y := by
  simp [State.kindAt]
@[simp] theorem intAck_peek (s : State) (y : Word) : (s.intAck).peek y = s.peek y := by
  simp [State.peek]

/-! ### `beginInt` -/

@[simp] theorem beginInt_main (s : State) : (s.beginInt).main = s.main := by simp [State.beginInt]
@[simp] theorem beginInt_alt (s : State) : (s.beginInt).alt = s.alt := by simp [State.beginInt]
@[simp] theorem beginInt_ix (s : State) : (s.beginInt).ix = s.ix := by simp [State.beginInt]
@[simp] theorem beginInt_iy (s : State) : (s.beginInt).iy = s.iy := by simp [State.beginInt]
@[simp] theorem beginInt_sp (s : State) : (s.beginInt).sp = s.sp := by simp [State.beginInt]
@[simp] theorem beginInt_pc (s : State) : (s.beginInt).pc = s.pc := by simp [State.beginInt]
@[simp] theorem beginInt_ireg (s : State) : (s.beginInt).ireg = s.ireg := by simp [State.beginInt]
@[simp] theorem beginInt_im (s : State) : (s.beginInt).im = s.im := by simp [State.beginInt]
@[simp] theorem beginInt_nmiPending (s : State) : (s.beginInt).nmiPending = s.nmiPending := by simp [State.beginInt]
@[simp] theorem beginInt_busGranted (s : State) : (s.beginInt).busGranted = s.busGranted := by simp [State.beginInt]
@[simp] theorem beginInt_debugStopped (s : State) : (s.beginInt).debugStopped = s.debugStopped := by simp [State.beginInt]
@[simp] theorem beginInt_mem (s : State) : (s.beginInt).mem = s.mem := by simp [State.beginInt]
@[simp] theorem beginInt_platform (s : State) : (s.beginInt).platform = s.platform := by simp [State.beginInt]
@[simp] theorem beginInt_debugEnable (s : State) : (s.beginInt).debugEnable = s.debugEnable := by simp [State.beginInt]
@[simp] theorem beginInt_inputs (s : State) : (s.beginInt).inputs = s.inputs := by simp [State.beginInt]
@[simp] theorem beginInt_memDataIn (s : State) : (s.beginInt).memDataIn = s.memDataIn := by simp [State.beginInt]
@[simp] theorem beginInt_kindAt (s : State) (y : Word) : (s.beginInt).kindAt y = s.kindAt y := by
  simp [State.kindAt]
@[simp] theorem beginInt_peek (s : State) (y : Word) : (s.beginInt).peek y = s.peek y := by
  simp [State.peek]

@[simp] theorem beginEntry_iff1 (s : State) : (s.beginEntry).iff1 = false := rfl
@[simp] theorem beginEntry_halted (s : State) : (s.beginEntry).halted = false := rfl
@[simp] theorem beginEntry_eiShadow (s : State) : (s.beginEntry).eiShadow = false := rfl
@[simp] theorem intAck_bus (s : State) : (s.intAck).bus = .intAck s.pc s.sfrIn :: s.bus := by simp [State.intAck, State.note]
@[simp] theorem beginInt_iff1 (s : State) : (s.beginInt).iff1 = false := by simp [State.beginInt]
@[simp] theorem beginInt_iff2 (s : State) : (s.beginInt).iff2 = (s.iff2 && !s.platform.intAckClearsIFF2) := rfl
@[simp] theorem beginInt_halted (s : State) : (s.beginInt).halted = false := by simp [State.beginInt]
@[simp] theorem beginInt_eiShadow (s : State) : (s.beginInt).eiShadow = false := by simp [State.beginInt]
@[simp] theorem beginInt_bus (s : State) : (s.beginInt).bus = .intAck s.pc s.sfrIn :: s.bus := by simp [State.beginInt]

/-! ### What a change leaves -/

@[simp] theorem setSp_sp (s : State) (w : Word) : (s.setSp w).sp = w := rfl
@[simp] theorem setPc_pc (s : State) (w : Word) : (s.setPc w).pc = w := rfl
@[simp] theorem setA_main (s : State) (v : Byte) : (s.setA v).main = { s.main with a := v } := rfl
@[simp] theorem setB_main (s : State) (v : Byte) : (s.setB v).main = { s.main with b := v } := rfl
@[simp] theorem setBc_main (s : State) (w : Word) :
    (s.setBc w).main = { s.main with b := hi w, c := lo w } := rfl
@[simp] theorem setDe_main (s : State) (w : Word) :
    (s.setDe w).main = { s.main with d := hi w, e := lo w } := rfl
@[simp] theorem setHl_main (s : State) (w : Word) :
    (s.setHl w).main = { s.main with h := hi w, l := lo w } := rfl
@[simp] theorem setAf_main (s : State) (w : Word) :
    (s.setAf w).main = { s.main with a := hi w, f := lo w } := rfl
@[simp] theorem putFlagsWith_main (s : State) (fl : Flags) (f5 f3 : Bool) :
    (s.putFlagsWith fl f5 f3).main = { s.main with f := fl.pack f5 f3 } := rfl
@[simp] theorem putFlags_main (s : State) (fl : Flags) :
    (s.putFlags fl).main =
      { s.main with f := fl.pack (Config.freeBit s.draws) (Config.freeBit (s.draws + 1)) } := rfl
@[simp] theorem putFlags_draws (s : State) (fl : Flags) : (s.putFlags fl).draws = s.draws + 2 := rfl
@[simp] theorem note_bus (s : State) (e : BusEvent) : (s.note e).bus = e :: s.bus := rfl
@[simp] theorem memRead_bus (s : State) (a : Word) :
    (s.memRead a).bus = .memRead a (s.memIn a) :: s.bus := by simp [State.memRead]
@[simp] theorem memWrite_bus (s : State) (a : Word) (v : Byte) :
    (s.memWrite a v).bus = .memWrite a v :: s.bus := by simp [State.memWrite]
@[simp] theorem ioRead_bus (s : State) (p : Word) :
    (s.ioRead p).bus = .ioRead p s.sfrIn :: s.bus := by simp [State.ioRead]
@[simp] theorem ioWrite_bus (s : State) (p : Word) (v : Byte) :
    (s.ioWrite p v).bus = .ioWrite p v :: s.bus := rfl
@[simp] theorem memRead16_bus (s : State) (a : Word) :
    (s.memRead16 a).bus = .memRead (a + 1) ((s.memRead a).memIn (a + 1)) :: .memRead a (s.memIn a) :: s.bus := by
  simp [State.memRead16]
@[simp] theorem memWrite16_bus (s : State) (a w : Word) :
    (s.memWrite16 a w).bus = .memWrite (a + 1) (hi w) :: .memWrite a (lo w) :: s.bus := by
  simp [State.memWrite16]
@[simp] theorem push16_bus (s : State) (w : Word) :
    (s.push16 w).bus = .memWrite (s.sp - 2) (lo w) :: .memWrite (s.sp - 1) (hi w) :: s.bus := by
  simp [State.push16]
@[simp] theorem push16_sp (s : State) (w : Word) : (s.push16 w).sp = s.sp - 2 := rfl
@[simp] theorem pop16_sp (s : State) : s.pop16.sp = s.sp + 2 := rfl
@[simp] theorem popPc_sp (s : State) : s.popPc.sp = s.sp + 2 := rfl
@[simp] theorem popPc_pc (s : State) : s.popPc.pc = s.popIn := rfl
@[simp] theorem enterAt_sp (s : State) (w : Word) : (s.enterAt w).sp = s.sp - 2 := rfl
@[simp] theorem enterAt_pc (s : State) (w : Word) : (s.enterAt w).pc = w := rfl
@[simp] theorem setPair_pair (s : State) (p : Pair) (w : Word) : (s.setPair p w).pair p = w := by
  cases p <;> simp [State.setPair, State.pair, State.bc, State.de, State.hl]
@[simp] theorem setPairQ_pairQ (s : State) (q : PairQ) (w : Word) : (s.setPairQ q w).pairQ q = w := by
  cases q <;> simp [State.setPairQ, State.pairQ, State.bc, State.de, State.hl, State.af]
@[simp] theorem setIdx_idx (s : State) (x : Idx) (w : Word) : (s.setIdx x w).idx x = w := by
  cases x <;> rfl
@[simp] theorem setReg_reg (s : State) (r : Reg8) (v : Byte) : (s.setReg r v).reg r = v := by
  cases r <;> rfl
@[simp] theorem putFlags_flags (s : State) (fl : Flags) : (s.putFlags fl).flags = fl := by
  simp [State.flags]
@[simp] theorem putFlagsWith_flags (s : State) (fl : Flags) (f5 f3 : Bool) :
    (s.putFlagsWith fl f5 f3).flags = fl := by
  simp [State.flags]
@[simp] theorem putFlags_reg (s : State) (fl : Flags) (r : Reg8) : (s.putFlags fl).reg r = s.reg r := by
  cases r <;> rfl
@[simp] theorem setReg_flags (s : State) (r : Reg8) (v : Byte) : (s.setReg r v).flags = s.flags := by
  cases r <;> rfl

end Sys2Proof.Machine
end

