-- ==== Sys2Proof/Laws/Memory.lean ====
section
/-! SUPPORT. Laws of memory: read after write, the canonical form, and what a store leaves alone. -/

namespace Sys2Proof.Machine

/-- Read after write, on the list. -/
theorem get?_set (m : Memory) (k : Nat) (v : Byte) (x : Nat) :
    Memory.get? (Memory.set m k v) x = if x = k then some v else Memory.get? m x := by
  induction m with
  | nil =>
    by_cases h : x = k
    · simp [Memory.set, Memory.get?, h]
    · simp [Memory.set, Memory.get?, h, Ne.symm h]
  | cons e m ih =>
    obtain ⟨a, w⟩ := e
    unfold Memory.set
    split
    · by_cases h : x = k
      · simp [Memory.get?, h]
      · simp [Memory.get?, h, Ne.symm h]
    · split
      · rename_i hk
        subst hk
        by_cases h : x = k
        · simp [Memory.get?, h]
        · simp [Memory.get?, h, Ne.symm h]
      · rename_i h1 h2
        by_cases ha : a = x
        · subst ha
          simp [Memory.get?, Ne.symm h2]
        · simp [Memory.get?, ha, ih]

theorem risingFrom_mono {m : Memory} {j k : Nat} (hjk : j ≤ k) (h : Memory.risingFrom k m = true) :
    Memory.risingFrom j m = true := by
  cases m with
  | nil => rfl
  | cons e m =>
    obtain ⟨a, w⟩ := e
    simp only [Memory.risingFrom, Bool.and_eq_true, decide_eq_true_eq] at h ⊢
    exact ⟨⟨by omega, h.1.2⟩, h.2⟩

/-- A write keeps the canonical form. -/
theorem risingFrom_set {m : Memory} {j k : Nat} (v : Byte) (hjk : j ≤ k) (hk : k < 65536)
    (h : Memory.risingFrom j m = true) : Memory.risingFrom j (Memory.set m k v) = true := by
  induction m generalizing j with
  | nil => simp [Memory.set, Memory.risingFrom, hjk, hk]
  | cons e m ih =>
    obtain ⟨a, w⟩ := e
    simp only [Memory.risingFrom, Bool.and_eq_true, decide_eq_true_eq] at h
    unfold Memory.set
    split
    · simp only [Memory.risingFrom, Bool.and_eq_true, decide_eq_true_eq]
      exact ⟨⟨hjk, hk⟩, ⟨by omega, h.1.2⟩, h.2⟩
    · split
      · rename_i hka
        subst hka
        simp only [Memory.risingFrom, Bool.and_eq_true, decide_eq_true_eq]
        exact ⟨⟨hjk, hk⟩, h.2⟩
      · simp only [Memory.risingFrom, Bool.and_eq_true, decide_eq_true_eq]
        exact ⟨h.1, ih (by omega) h.2⟩

theorem set_wf {m : Memory} (k : Word) (v : Byte) (h : Memory.wf m = true) :
    Memory.wf (Memory.set m k.toNat v) = true :=
  risingFrom_set v (Nat.zero_le _) k.isLt h

/-- Nothing is listed below the first address. -/
theorem get?_below {m : Memory} {j k : Nat} (h : Memory.risingFrom j m = true) (hk : k < j) :
    Memory.get? m k = none := by
  induction m generalizing j with
  | nil => rfl
  | cons e m ih =>
    obtain ⟨a, w⟩ := e
    simp only [Memory.risingFrom, Bool.and_eq_true, decide_eq_true_eq] at h
    have : a ≠ k := by omega
    simp only [Memory.get?, this, if_false]
    exact ih h.2 (by omega)

/-- Memories in canonical form that answer every read alike are the same list. -/
theorem ext_of_get? {m n : Memory} {j : Nat} (hm : Memory.risingFrom j m = true)
    (hn : Memory.risingFrom j n = true) (h : ∀ k, Memory.get? m k = Memory.get? n k) : m = n := by
  induction m generalizing n j with
  | nil =>
    cases n with
    | nil => rfl
    | cons e n =>
      have := h e.1
      simp [Memory.get?] at this
  | cons e m ih =>
    obtain ⟨a, w⟩ := e
    cases n with
    | nil =>
      have := h a
      simp [Memory.get?] at this
    | cons e' n =>
      obtain ⟨b, x⟩ := e'
      simp only [Memory.risingFrom, Bool.and_eq_true, decide_eq_true_eq] at hm hn
      have hab : a = b := by
        rcases Nat.lt_trichotomy a b with hlt | heq | hgt
        · have h1 := h a
          have hb : b ≠ a := by omega
          simp only [Memory.get?, if_true, hb, if_false] at h1
          rw [get?_below hn.2 (by omega)] at h1
          cases h1
        · exact heq
        · have h1 := h b
          have hb : a ≠ b := by omega
          simp only [Memory.get?, if_true, hb, if_false] at h1
          rw [get?_below hm.2 (by omega)] at h1
          cases h1
      subst hab
      have hw : w = x := by
        have h1 := h a
        simpa [Memory.get?] using h1
      subst hw
      congr 1
      refine ih hm.2 hn.2 (fun k => ?_)
      by_cases hk : a = k
      · subst hk
        rw [get?_below hm.2 (by omega), get?_below hn.2 (by omega)]
      · have h1 := h k
        simpa [Memory.get?, hk] using h1

/-- What a byte of memory holds after a write at `a` (20_memory.md R76). -/
theorem peek_poke (s : State) (a : Word) (v : Byte) (x : Word) :
    (s.poke a v).peek x = if x = a ∧ s.kindAt a = .ram then v else s.peek x := by
  unfold State.poke
  split
  · rename_i hk
    by_cases h : x = a
    · simp [State.peek, get?_set, h, hk]
    · have : x.toNat ≠ a.toNat := fun he => h (BitVec.eq_of_toNat_eq he)
      simp [State.peek, get?_set, h, this]
  all_goals
    rename_i hk
    simp [hk]

@[simp] theorem memWrite_peek (s : State) (a : Word) (v : Byte) (x : Word) :
    (s.memWrite a v).peek x = if x = a ∧ s.kindAt a = .ram then v else s.peek x := by
  simp [State.memWrite, peek_poke]

@[simp] theorem poke_wf (s : State) (a : Word) (v : Byte) (h : Memory.wf s.mem = true) :
    Memory.wf (s.poke a v).mem = true := by
  unfold State.poke
  split
  · exact set_wf a v h
  all_goals exact h

@[simp] theorem memWrite_mem (s : State) (a : Word) (v : Byte) : (s.memWrite a v).mem = (s.poke a v).mem := rfl

theorem memWrite_wf (s : State) (a : Word) (v : Byte) (h : Memory.wf s.mem = true) :
    Memory.wf (s.memWrite a v).mem = true := poke_wf s a v h

theorem memWrite16_wf (s : State) (a w : Word) (h : Memory.wf s.mem = true) :
    Memory.wf (s.memWrite16 a w).mem = true :=
  memWrite_wf _ _ _ (memWrite_wf _ _ _ h)

theorem push16_wf (s : State) (w : Word) (h : Memory.wf s.mem = true) :
    Memory.wf (s.push16 w).mem = true :=
  memWrite_wf _ _ _ (memWrite_wf _ _ _ h)

/-- Another bus master changes nothing but memory. -/
theorem masterWrites_eq (ws : List (Word × Byte)) (s : State) :
    s.masterWrites ws = { s with mem := (s.masterWrites ws).mem } := by
  induction ws generalizing s with
  | nil => rfl
  | cons w ws ih =>
    obtain ⟨a, v⟩ := w
    have h : s.poke a v = { s with mem := (s.poke a v).mem } := by unfold State.poke; split <;> rfl
    unfold State.masterWrites
    rw [ih, h]

@[simp] theorem masterWrites_kindAt (ws : List (Word × Byte)) (s : State) (y : Word) :
    (s.masterWrites ws).kindAt y = s.kindAt y := by
  rw [masterWrites_eq]
  rfl

/-- The bytes it does not name keep their values. -/
theorem masterWrites_peek_other (ws : List (Word × Byte)) (s : State) (x : Word) (h : ∀ w ∈ ws, w.1 ≠ x) :
    (s.masterWrites ws).peek x = s.peek x := by
  induction ws generalizing s with
  | nil => rfl
  | cons w ws ih =>
    obtain ⟨a, v⟩ := w
    have hx : x ≠ a := fun e => h (a, v) (by simp) e.symm
    unfold State.masterWrites
    rw [ih _ (fun w hw => h w (by simp [hw])), peek_poke, if_neg (fun hc => hx hc.1)]

theorem masterWrites_append (before after : List (Word × Byte)) (s : State) :
    s.masterWrites (before ++ after) = (s.masterWrites before).masterWrites after := by
  induction before generalizing s with
  | nil => rfl
  | cons w ws ih => exact ih _

/-- A byte that is not in RAM keeps its value. -/
theorem masterWrites_peek_of_not_ram (ws : List (Word × Byte)) (s : State) (x : Word) (h : s.kindAt x ≠ .ram) :
    (s.masterWrites ws).peek x = s.peek x := by
  induction ws generalizing s with
  | nil => rfl
  | cons w ws ih =>
    have hk : (s.poke w.1 w.2).kindAt x = s.kindAt x := by unfold State.poke; split <;> rfl
    unfold State.masterWrites
    rw [ih _ (by rw [hk]; exact h), peek_poke]
    exact if_neg fun ⟨he, hr⟩ => h (he ▸ hr)

/-- A byte of RAM holds the last value written to it. -/
theorem masterWrites_peek_last (before after : List (Word × Byte)) (s : State) (a : Word) (v : Byte)
    (hk : s.kindAt a = .ram) (h : ∀ w ∈ after, w.1 ≠ a) :
    (s.masterWrites (before ++ (a, v) :: after)).peek a = v := by
  rw [masterWrites_append]
  unfold State.masterWrites
  rw [masterWrites_peek_other _ _ _ h, peek_poke, masterWrites_kindAt, if_pos ⟨rfl, hk⟩]

theorem masterWrites_wf (ws : List (Word × Byte)) (s : State) (h : Memory.wf s.mem = true) :
    Memory.wf (s.masterWrites ws).mem = true := by
  induction ws generalizing s with
  | nil => exact h
  | cons w ws ih => exact ih _ (poke_wf s w.1 w.2 h)

theorem busMaster_wf (s : State) (b : Boundary) (h : Memory.wf s.mem = true) :
    Memory.wf (s.busMaster b).mem = true := by
  unfold State.busMaster
  split
  · exact masterWrites_wf _ s h
  · exact h

theorem storeBytes_wf (m : Memory) (a : Word) (bytes : List Byte) (h : Memory.wf m = true) :
    Memory.wf (storeBytes m a bytes) = true := by
  induction bytes generalizing m a with
  | nil => exact h
  | cons b more ih => exact ih _ _ (set_wf a b h)

end Sys2Proof.Machine
end

