-- ==== Sys2Proof/Laws/Exec.lean ====
section
/-! SUPPORT. What `exec` answers, one equation for each family of instructions and one for each single
instruction; and the case split of `Instr` into those families. -/

namespace Sys2Proof.Machine

theorem exec_ldRR (r1 : Reg8) (r2 : Reg8) (s : State) :
    exec (Form.ldRR r1 r2) s = .next (s.loadReg r1 (.reg r2)) := by
  cases r1 <;> cases r2 <;> rfl

theorem exec_ldRN (r : Reg8) (n : Byte) (s : State) :
    exec (Form.ldRN r n) s = .next (s.loadReg r (.imm n)) := by
  cases r <;> rfl

theorem exec_ldRAtHl (r : Reg8) (s : State) :
    exec (Form.ldRAtHl r) s = .next (s.loadReg r (.mem s.hl)) := by
  cases r <;> rfl

theorem exec_ldAtHlR (r : Reg8) (s : State) :
    exec (Form.ldAtHlR r) s = .next (s.memWrite s.hl (s.reg r)) := by
  cases r <;> rfl

theorem exec_ldRAtXyd (r : Reg8) (x : Idx) (d : Byte) (s : State) :
    exec (Form.ldRAtXyd r x d) s = .next (s.loadReg r (.mem (s.ea x d))) := by
  cases r <;> cases x <;> rfl

theorem exec_ldAtXydR (x : Idx) (d : Byte) (r : Reg8) (s : State) :
    exec (Form.ldAtXydR x d r) s = .next (s.memWrite (s.ea x d) (s.reg r)) := by
  cases x <;> cases r <;> rfl

theorem exec_ldAtXydN (x : Idx) (d : Byte) (n : Byte) (s : State) :
    exec (Form.ldAtXydN x d n) s = .next (s.memWrite (s.ea x d) n) := by
  cases x <;> rfl

theorem exec_aluR (op : Alu) (r : Reg8) (s : State) :
    exec (Form.aluR op r) s = .next (s.alu op (.reg r)) := by
  cases op <;> cases r <;> rfl

theorem exec_aluN (op : Alu) (n : Byte) (s : State) :
    exec (Form.aluN op n) s = .next (s.alu op (.imm n)) := by
  cases op <;> rfl

theorem exec_aluAtHl (op : Alu) (s : State) :
    exec (Form.aluAtHl op) s = .next (s.alu op (.mem s.hl)) := by
  cases op <;> rfl

theorem exec_aluAtXyd (op : Alu) (x : Idx) (d : Byte) (s : State) :
    exec (Form.aluAtXyd op x d) s = .next (s.alu op (.mem (s.ea x d))) := by
  cases op <;> cases x <;> rfl

theorem exec_incR (r : Reg8) (s : State) :
    exec (Form.incR r) s = .next (s.changeReg r (inc8 (s.reg r)) (inc8Flags (s.reg r) s.flags)) := by
  cases r <;> rfl

theorem exec_incAtXyd (x : Idx) (d : Byte) (s : State) :
    exec (Form.incAtXyd x d) s = .next (s.changeMem (s.ea x d) (inc8 (s.memIn (s.ea x d))) (inc8Flags (s.memIn (s.ea x d)) s.flags)) := by
  cases x <;> rfl

theorem exec_decR (r : Reg8) (s : State) :
    exec (Form.decR r) s = .next (s.changeReg r (dec8 (s.reg r)) (dec8Flags (s.reg r) s.flags)) := by
  cases r <;> rfl

theorem exec_decAtXyd (x : Idx) (d : Byte) (s : State) :
    exec (Form.decAtXyd x d) s = .next (s.changeMem (s.ea x d) (dec8 (s.memIn (s.ea x d))) (dec8Flags (s.memIn (s.ea x d)) s.flags)) := by
  cases x <;> rfl

theorem exec_rotR (op : Rot) (r : Reg8) (s : State) :
    exec (Form.rotR op r) s = .next (s.rotateReg op r) := by
  cases op <;> cases r <;> rfl

theorem exec_rotAtHl (op : Rot) (s : State) :
    exec (Form.rotAtHl op) s = .next (s.rotateMem op s.hl) := by
  cases op <;> rfl

theorem exec_rotAtXyd (op : Rot) (x : Idx) (d : Byte) (s : State) :
    exec (Form.rotAtXyd op x d) s = .next (s.rotateMem op (s.ea x d)) := by
  cases op <;> cases x <;> rfl

theorem exec_bitR (b : BitVec 3) (r : Reg8) (s : State) :
    exec (Form.bitR b r) s = .next (s.testBit b (.reg r)) := by
  cases r <;> rfl

theorem exec_bitAtXyd (b : BitVec 3) (x : Idx) (d : Byte) (s : State) :
    exec (Form.bitAtXyd b x d) s = .next (s.testBit b (.mem (s.ea x d))) := by
  cases x <;> rfl

theorem exec_resR (b : BitVec 3) (r : Reg8) (s : State) :
    exec (Form.resR b r) s = .next (s.setReg r (s.reg r &&& (0xFF - bitMask b))) := by
  cases r <;> rfl

theorem exec_resAtXyd (b : BitVec 3) (x : Idx) (d : Byte) (s : State) :
    exec (Form.resAtXyd b x d) s = .next (s.resBitMem b (s.ea x d)) := by
  cases x <;> rfl

theorem exec_setR (b : BitVec 3) (r : Reg8) (s : State) :
    exec (Form.setR b r) s = .next (s.setReg r (s.reg r ||| bitMask b)) := by
  cases r <;> rfl

theorem exec_setAtXyd (b : BitVec 3) (x : Idx) (d : Byte) (s : State) :
    exec (Form.setAtXyd b x d) s = .next (s.setBitMem b (s.ea x d)) := by
  cases x <;> rfl

theorem exec_inRPortC (r : Reg8) (s : State) :
    exec (Form.inRPortC r) s = .next (((s.ioRead s.portBC).setReg r s.sfrIn).putFlags (dataFlags s.sfrIn s.flags)) := by
  cases r <;> rfl

theorem exec_outPortCR (r : Reg8) (s : State) :
    exec (Form.outPortCR r) s = .next (s.ioWrite s.portBC (s.reg r)) := by
  cases r <;> rfl

theorem exec_addXyPp (x : Idx) (p : PairX) (s : State) :
    exec (Form.addXyPp x p) s = .next ((s.setIdx x (add16 (s.idx x) (s.pairX x p))).putFlags (add16Flags (s.idx x) (s.pairX x p) s.flags)) := by
  cases x <;> rfl

theorem exec_ldXyNn (x : Idx) (nn : Word) (s : State) :
    exec (Form.ldXyNn x nn) s = .next (s.setIdx x nn) := by
  cases x <;> rfl

theorem exec_ldAtNnXy (nn : Word) (x : Idx) (s : State) :
    exec (Form.ldAtNnXy nn x) s = .next (s.memWrite16 nn (s.idx x)) := by
  cases x <;> rfl

theorem exec_ldXyAtNn (x : Idx) (nn : Word) (s : State) :
    exec (Form.ldXyAtNn x nn) s = .next (s.loadIdx x nn) := by
  cases x <;> rfl

theorem exec_incXy (x : Idx) (s : State) :
    exec (Form.incXy x) s = .next (s.setIdx x (s.idx x + 1)) := by
  cases x <;> rfl

theorem exec_decXy (x : Idx) (s : State) :
    exec (Form.decXy x) s = .next (s.setIdx x (s.idx x - 1)) := by
  cases x <;> rfl

theorem exec_popXy (x : Idx) (s : State) :
    exec (Form.popXy x) s = .next (s.pop16.setIdx x s.popIn) := by
  cases x <;> rfl

theorem exec_pushXy (x : Idx) (s : State) :
    exec (Form.pushXy x) s = .next (s.push16 (s.idx x)) := by
  cases x <;> rfl

theorem exec_jpXy (x : Idx) (s : State) :
    exec (Form.jpXy x) s = .next (s.setPc (s.idx x)) := by
  cases x <;> rfl

theorem exec_exAtSpXy (x : Idx) (s : State) :
    exec (Form.exAtSpXy x) s = .next ((s.exchangeTop (s.idx x)).setIdx x s.popIn) := by
  cases x <;> rfl

theorem exec_ldSpXy (x : Idx) (s : State) :
    exec (Form.ldSpXy x) s = .next (s.setSp (s.idx x)) := by
  cases x <;> rfl

theorem exec_nop (s : State) :
    exec .nop s = .next (s) := rfl

theorem exec_ldPpNn (p : Pair) (nn : Word) (s : State) :
    exec (.ldPpNn p nn) s = .next (s.setPair p nn) := rfl

theorem exec_ldAtBcA (s : State) :
    exec .ldAtBcA s = .next (s.memWrite s.bc s.main.a) := rfl

theorem exec_ldAtDeA (s : State) :
    exec .ldAtDeA s = .next (s.memWrite s.de s.main.a) := rfl

theorem exec_ldAtNnHl (nn : Word) (s : State) :
    exec (.ldAtNnHl nn) s = .next (s.memWrite16 nn s.hl) := rfl

theorem exec_ldAtNnA (nn : Word) (s : State) :
    exec (.ldAtNnA nn) s = .next (s.memWrite nn s.main.a) := rfl

theorem exec_incPp (p : Pair) (s : State) :
    exec (.incPp p) s = .next (s.setPair p (s.pair p + 1)) := rfl

theorem exec_decPp (p : Pair) (s : State) :
    exec (.decPp p) s = .next (s.setPair p (s.pair p - 1)) := rfl

theorem exec_addHlPp (p : Pair) (s : State) :
    exec (.addHlPp p) s = .next ((s.setHl (add16 s.hl (s.pair p))).putFlags (add16Flags s.hl (s.pair p) s.flags)) := rfl

theorem exec_incAtHl (s : State) :
    exec .incAtHl s = .next (s.changeMem s.hl (inc8 (s.memIn s.hl)) (inc8Flags (s.memIn s.hl) s.flags)) := rfl

theorem exec_decAtHl (s : State) :
    exec .decAtHl s = .next (s.changeMem s.hl (dec8 (s.memIn s.hl)) (dec8Flags (s.memIn s.hl) s.flags)) := rfl

theorem exec_ldAtHlN (n : Byte) (s : State) :
    exec (.ldAtHlN n) s = .next (s.memWrite s.hl n) := rfl

theorem exec_rlca (s : State) :
    exec .rlca s = .next (s.rotateAcc .rlc) := rfl

theorem exec_rrca (s : State) :
    exec .rrca s = .next (s.rotateAcc .rrc) := rfl

theorem exec_rla (s : State) :
    exec .rla s = .next (s.rotateAcc .rl) := rfl

theorem exec_rra (s : State) :
    exec .rra s = .next (s.rotateAcc .rr) := rfl

theorem exec_daa (s : State) :
    exec .daa s = .next (s.decimalAdjust) := rfl

theorem exec_cpl (s : State) :
    exec .cpl s = .next ((s.setA (s.main.a ^^^ 0xFF)).putFlags { s.flags with h := true, n := true }) := rfl

theorem exec_scf (s : State) :
    exec .scf s = .next (s.putFlags { s.flags with h := false, n := false, c := true }) := rfl

theorem exec_ccf (s : State) :
    exec .ccf s = .next (s.putFlags { s.flags with h := s.flags.c, n := false, c := !s.flags.c }) := rfl

theorem exec_exAfAf (s : State) :
    exec .exAfAf s = .next ({ s with main := { s.main with a := s.alt.a, f := s.alt.f }, alt := { s.alt with a := s.main.a, f := s.main.f } }) := rfl

theorem exec_ldAAtBc (s : State) :
    exec .ldAAtBc s = .next (s.loadReg .a (.mem s.bc)) := rfl

theorem exec_ldAAtDe (s : State) :
    exec .ldAAtDe s = .next (s.loadReg .a (.mem s.de)) := rfl

theorem exec_ldHlAtNn (nn : Word) (s : State) :
    exec (.ldHlAtNn nn) s = .next (s.loadPair .hl nn) := rfl

theorem exec_ldAAtNn (nn : Word) (s : State) :
    exec (.ldAAtNn nn) s = .next (s.loadReg .a (.mem nn)) := rfl

theorem exec_djnzE (e : Byte) (s : State) :
    exec (.djnzE e) s = .next (if s.main.b - 1 = 0 then s.setB (s.main.b - 1) else (s.setB (s.main.b - 1)).jumpRel e) := rfl

theorem exec_jrE (e : Byte) (s : State) :
    exec (.jrE e) s = .next (s.jumpRel e) := rfl

theorem exec_jrCcE (cc : Cond4) (e : Byte) (s : State) :
    exec (.jrCcE cc e) s = .next (if cond4Holds cc s.flags then s.jumpRel e else s) := rfl

theorem exec_halt (s : State) :
    exec .halt s = .next ({ s with halted := true }) := rfl

theorem exec_retCc (cc : Cond) (s : State) :
    exec (.retCc cc) s = .next (if condHolds cc s.flags then s.popPc else s) := rfl

theorem exec_popQq (q : PairQ) (s : State) :
    exec (.popQq q) s = .next (s.pop16.setPairQ q s.popIn) := rfl

theorem exec_jpCcNn (cc : Cond) (nn : Word) (s : State) :
    exec (.jpCcNn cc nn) s = .next (if condHolds cc s.flags then s.setPc nn else s) := rfl

theorem exec_jpNn (nn : Word) (s : State) :
    exec (.jpNn nn) s = .next (s.setPc nn) := rfl

theorem exec_callCcNn (cc : Cond) (nn : Word) (s : State) :
    exec (.callCcNn cc nn) s = .next (if condHolds cc s.flags then s.enterAt nn else s) := rfl

theorem exec_pushQq (q : PairQ) (s : State) :
    exec (.pushQq q) s = .next (s.push16 (s.pairQ q)) := rfl

theorem exec_rstP (p : Byte) (s : State) :
    exec (.rstP p) s = .next (s.enterAt (join 0 p)) := rfl

theorem exec_ret (s : State) :
    exec .ret s = .next (s.popPc) := rfl

theorem exec_callNn (nn : Word) (s : State) :
    exec (.callNn nn) s = .next (s.enterAt nn) := rfl

theorem exec_outPortNA (n : Byte) (s : State) :
    exec (.outPortNA n) s = .next (s.ioWrite (s.portAN n) s.main.a) := rfl

theorem exec_inAPortN (n : Byte) (s : State) :
    exec (.inAPortN n) s = .next ((s.ioRead (s.portAN n)).setA s.sfrIn) := rfl

theorem exec_exx (s : State) :
    exec .exx s = .next ({ s with
    main := { s.alt with a := s.main.a, f := s.main.f }
    alt := { s.main with a := s.alt.a, f := s.alt.f } }) := rfl

theorem exec_exAtSpHl (s : State) :
    exec .exAtSpHl s = .next ((s.exchangeTop s.hl).setHl s.popIn) := rfl

theorem exec_jpHl (s : State) :
    exec .jpHl s = .next (s.setPc s.hl) := rfl

theorem exec_exDeHl (s : State) :
    exec .exDeHl s = .next ((s.setDe s.hl).setHl s.de) := rfl

theorem exec_di (s : State) :
    exec .di s = .next ({ s with iff1 := false, iff2 := false }) := rfl

theorem exec_ldSpHl (s : State) :
    exec .ldSpHl s = .next (s.setSp s.hl) := rfl

theorem exec_ei (s : State) :
    exec .ei s = .next ({ s with iff1 := true, iff2 := true, eiShadow := true }) := rfl

theorem exec_bitAtHl (b : BitVec 3) (s : State) :
    exec (.bitAtHl b) s = .next (s.testBit b (.mem s.hl)) := rfl

theorem exec_resAtHl (b : BitVec 3) (s : State) :
    exec (.resAtHl b) s = .next (s.resBitMem b s.hl) := rfl

theorem exec_setAtHl (b : BitVec 3) (s : State) :
    exec (.setAtHl b) s = .next (s.setBitMem b s.hl) := rfl

theorem exec_sbcHlPp (p : Pair) (s : State) :
    exec (.sbcHlPp p) s = .next ((s.setHl (sbc16 s.hl (s.pair p) s.flags.c)).putFlags (sbc16Flags s.hl (s.pair p) s.flags.c)) := rfl

theorem exec_adcHlPp (p : Pair) (s : State) :
    exec (.adcHlPp p) s = .next ((s.setHl (adc16 s.hl (s.pair p) s.flags.c)).putFlags (adc16Flags s.hl (s.pair p) s.flags.c)) := rfl

theorem exec_ldAtNnPp (nn : Word) (p : Pair) (s : State) :
    exec (.ldAtNnPp nn p) s = .next (s.memWrite16 nn (s.pair p)) := rfl

theorem exec_ldPpAtNn (p : Pair) (nn : Word) (s : State) :
    exec (.ldPpAtNn p nn) s = .next (s.loadPair p nn) := rfl

theorem exec_neg (s : State) :
    exec .neg s = .next ((s.setA (0 - s.main.a)).putFlags (negFlags s.main.a)) := rfl

theorem exec_retn (s : State) :
    exec .retn s = .next ({ s.popPc with iff1 := s.iff2 }) := rfl

theorem exec_im0 (s : State) :
    exec .im0 s = .next ({ s with im := .im0 }) := rfl

theorem exec_im1 (s : State) :
    exec .im1 s = .next ({ s with im := .im1 }) := rfl

theorem exec_im2 (s : State) :
    exec .im2 s = .next ({ s with im := .im2 }) := rfl

theorem exec_ldIA (s : State) :
    exec .ldIA s = .next ({ s with ireg := s.main.a }) := rfl

theorem exec_ldAI (s : State) :
    exec .ldAI s = .next ((s.setA s.ireg).putFlags (ldAIFlags s.ireg s.iff2 s.flags)) := rfl

theorem exec_reti (s : State) :
    exec .reti s = .next (s.popPc) := rfl

theorem exec_rrd (s : State) :
    exec .rrd s = .next (s.rotateDigits (BitVec.ofNat 8 ((s.main.a.toNat % 16) * 16 + (s.memIn s.hl).toNat / 16))
    (BitVec.ofNat 8 (s.main.a.toNat / 16 * 16 + (s.memIn s.hl).toNat % 16))) := rfl

theorem exec_rld (s : State) :
    exec .rld s = .next (s.rotateDigits (BitVec.ofNat 8 (((s.memIn s.hl).toNat % 16) * 16 + s.main.a.toNat % 16))
    (BitVec.ofNat 8 (s.main.a.toNat / 16 * 16 + (s.memIn s.hl).toNat / 16))) := rfl

theorem exec_ldi (s : State) :
    exec .ldi s = .next (s.ldStep 1) := rfl

theorem exec_cpi (s : State) :
    exec .cpi s = .next (s.cpStep 1) := rfl

theorem exec_ini (s : State) :
    exec .ini s = .next ((s.ioInStep 1).putFlagsWith (ioStepFlags (s.main.b - 1) s.flags) ((s.main.b - 1).getLsbD 5)
    ((s.main.b - 1).getLsbD 3)) := rfl

theorem exec_outi (s : State) :
    exec .outi s = .next (s.ioOut 1) := rfl

theorem exec_ldd (s : State) :
    exec .ldd s = .next (s.ldStep (-1)) := rfl

theorem exec_cpd (s : State) :
    exec .cpd s = .next (s.cpStep (-1)) := rfl

theorem exec_ind (s : State) :
    exec .ind s = .next (s.ioIn (-1)) := rfl

theorem exec_outd (s : State) :
    exec .outd s = .next (s.ioOut (-1)) := rfl

theorem exec_ldir (s : State) :
    exec .ldir s = .next ((s.ldStep 1).repeatWhen s.ldAgain) := rfl

theorem exec_cpir (s : State) :
    exec .cpir s = .next ((s.cpStep 1).repeatWhen s.cpAgain) := rfl

theorem exec_inir (s : State) :
    exec .inir s = .next ((s.ioIn 1).repeatWhen s.ioAgain) := rfl

theorem exec_otir (s : State) :
    exec .otir s = .next ((s.ioOut 1).repeatWhen s.ioAgain) := rfl

theorem exec_lddr (s : State) :
    exec .lddr s = .next ((s.ldStep (-1)).repeatWhen s.ldAgain) := rfl

theorem exec_cpdr (s : State) :
    exec .cpdr s = .next ((s.cpStep (-1)).repeatWhen s.cpAgain) := rfl

theorem exec_indr (s : State) :
    exec .indr s = .next ((s.ioIn (-1)).repeatWhen s.ioAgain) := rfl

theorem exec_otdr (s : State) :
    exec .otdr s = .next ((s.ioOut (-1)).repeatWhen s.ioAgain) := rfl

/-- Every instruction is one of these forms. -/
theorem instr_forms {P : Instr → Prop}
    (h_ldRR : ∀ (r1 : Reg8) (r2 : Reg8), P (Form.ldRR r1 r2))
    (h_ldRN : ∀ (r : Reg8) (n : Byte), P (Form.ldRN r n))
    (h_ldRAtHl : ∀ (r : Reg8), P (Form.ldRAtHl r))
    (h_ldAtHlR : ∀ (r : Reg8), P (Form.ldAtHlR r))
    (h_ldRAtXyd : ∀ (r : Reg8) (x : Idx) (d : Byte), P (Form.ldRAtXyd r x d))
    (h_ldAtXydR : ∀ (x : Idx) (d : Byte) (r : Reg8), P (Form.ldAtXydR x d r))
    (h_ldAtXydN : ∀ (x : Idx) (d : Byte) (n : Byte), P (Form.ldAtXydN x d n))
    (h_aluR : ∀ (op : Alu) (r : Reg8), P (Form.aluR op r))
    (h_aluN : ∀ (op : Alu) (n : Byte), P (Form.aluN op n))
    (h_aluAtHl : ∀ (op : Alu), P (Form.aluAtHl op))
    (h_aluAtXyd : ∀ (op : Alu) (x : Idx) (d : Byte), P (Form.aluAtXyd op x d))
    (h_incR : ∀ (r : Reg8), P (Form.incR r))
    (h_incAtXyd : ∀ (x : Idx) (d : Byte), P (Form.incAtXyd x d))
    (h_decR : ∀ (r : Reg8), P (Form.decR r))
    (h_decAtXyd : ∀ (x : Idx) (d : Byte), P (Form.decAtXyd x d))
    (h_rotR : ∀ (op : Rot) (r : Reg8), P (Form.rotR op r))
    (h_rotAtHl : ∀ (op : Rot), P (Form.rotAtHl op))
    (h_rotAtXyd : ∀ (op : Rot) (x : Idx) (d : Byte), P (Form.rotAtXyd op x d))
    (h_bitR : ∀ (b : BitVec 3) (r : Reg8), P (Form.bitR b r))
    (h_bitAtXyd : ∀ (b : BitVec 3) (x : Idx) (d : Byte), P (Form.bitAtXyd b x d))
    (h_resR : ∀ (b : BitVec 3) (r : Reg8), P (Form.resR b r))
    (h_resAtXyd : ∀ (b : BitVec 3) (x : Idx) (d : Byte), P (Form.resAtXyd b x d))
    (h_setR : ∀ (b : BitVec 3) (r : Reg8), P (Form.setR b r))
    (h_setAtXyd : ∀ (b : BitVec 3) (x : Idx) (d : Byte), P (Form.setAtXyd b x d))
    (h_inRPortC : ∀ (r : Reg8), P (Form.inRPortC r))
    (h_outPortCR : ∀ (r : Reg8), P (Form.outPortCR r))
    (h_addXyPp : ∀ (x : Idx) (p : PairX), P (Form.addXyPp x p))
    (h_ldXyNn : ∀ (x : Idx) (nn : Word), P (Form.ldXyNn x nn))
    (h_ldAtNnXy : ∀ (nn : Word) (x : Idx), P (Form.ldAtNnXy nn x))
    (h_ldXyAtNn : ∀ (x : Idx) (nn : Word), P (Form.ldXyAtNn x nn))
    (h_incXy : ∀ (x : Idx), P (Form.incXy x))
    (h_decXy : ∀ (x : Idx), P (Form.decXy x))
    (h_popXy : ∀ (x : Idx), P (Form.popXy x))
    (h_pushXy : ∀ (x : Idx), P (Form.pushXy x))
    (h_jpXy : ∀ (x : Idx), P (Form.jpXy x))
    (h_exAtSpXy : ∀ (x : Idx), P (Form.exAtSpXy x))
    (h_ldSpXy : ∀ (x : Idx), P (Form.ldSpXy x))
    (h_nop : P .nop)
    (h_ldPpNn : ∀ (p : Pair) (nn : Word), P (.ldPpNn p nn))
    (h_ldAtBcA : P .ldAtBcA)
    (h_ldAtDeA : P .ldAtDeA)
    (h_ldAtNnHl : ∀ (nn : Word), P (.ldAtNnHl nn))
    (h_ldAtNnA : ∀ (nn : Word), P (.ldAtNnA nn))
    (h_incPp : ∀ (p : Pair), P (.incPp p))
    (h_decPp : ∀ (p : Pair), P (.decPp p))
    (h_addHlPp : ∀ (p : Pair), P (.addHlPp p))
    (h_incAtHl : P .incAtHl)
    (h_decAtHl : P .decAtHl)
    (h_ldAtHlN : ∀ (n : Byte), P (.ldAtHlN n))
    (h_rlca : P .rlca)
    (h_rrca : P .rrca)
    (h_rla : P .rla)
    (h_rra : P .rra)
    (h_daa : P .daa)
    (h_cpl : P .cpl)
    (h_scf : P .scf)
    (h_ccf : P .ccf)
    (h_exAfAf : P .exAfAf)
    (h_ldAAtBc : P .ldAAtBc)
    (h_ldAAtDe : P .ldAAtDe)
    (h_ldHlAtNn : ∀ (nn : Word), P (.ldHlAtNn nn))
    (h_ldAAtNn : ∀ (nn : Word), P (.ldAAtNn nn))
    (h_djnzE : ∀ (e : Byte), P (.djnzE e))
    (h_jrE : ∀ (e : Byte), P (.jrE e))
    (h_jrCcE : ∀ (cc : Cond4) (e : Byte), P (.jrCcE cc e))
    (h_breakpoint64 : P .breakpoint64)
    (h_halt : P .halt)
    (h_retCc : ∀ (cc : Cond), P (.retCc cc))
    (h_popQq : ∀ (q : PairQ), P (.popQq q))
    (h_jpCcNn : ∀ (cc : Cond) (nn : Word), P (.jpCcNn cc nn))
    (h_jpNn : ∀ (nn : Word), P (.jpNn nn))
    (h_callCcNn : ∀ (cc : Cond) (nn : Word), P (.callCcNn cc nn))
    (h_pushQq : ∀ (q : PairQ), P (.pushQq q))
    (h_rstP : ∀ (p : Byte), P (.rstP p))
    (h_ret : P .ret)
    (h_callNn : ∀ (nn : Word), P (.callNn nn))
    (h_outPortNA : ∀ (n : Byte), P (.outPortNA n))
    (h_inAPortN : ∀ (n : Byte), P (.inAPortN n))
    (h_exx : P .exx)
    (h_exAtSpHl : P .exAtSpHl)
    (h_jpHl : P .jpHl)
    (h_exDeHl : P .exDeHl)
    (h_di : P .di)
    (h_ldSpHl : P .ldSpHl)
    (h_ei : P .ei)
    (h_bitAtHl : ∀ (b : BitVec 3), P (.bitAtHl b))
    (h_resAtHl : ∀ (b : BitVec 3), P (.resAtHl b))
    (h_setAtHl : ∀ (b : BitVec 3), P (.setAtHl b))
    (h_trap : P .trap)
    (h_sbcHlPp : ∀ (p : Pair), P (.sbcHlPp p))
    (h_adcHlPp : ∀ (p : Pair), P (.adcHlPp p))
    (h_ldAtNnPp : ∀ (nn : Word) (p : Pair), P (.ldAtNnPp nn p))
    (h_ldPpAtNn : ∀ (p : Pair) (nn : Word), P (.ldPpAtNn p nn))
    (h_neg : P .neg)
    (h_retn : P .retn)
    (h_im0 : P .im0)
    (h_im1 : P .im1)
    (h_im2 : P .im2)
    (h_ldIA : P .ldIA)
    (h_ldAI : P .ldAI)
    (h_reti : P .reti)
    (h_rrd : P .rrd)
    (h_rld : P .rld)
    (h_ldi : P .ldi)
    (h_cpi : P .cpi)
    (h_ini : P .ini)
    (h_outi : P .outi)
    (h_ldd : P .ldd)
    (h_cpd : P .cpd)
    (h_ind : P .ind)
    (h_outd : P .outd)
    (h_ldir : P .ldir)
    (h_cpir : P .cpir)
    (h_inir : P .inir)
    (h_otir : P .otir)
    (h_lddr : P .lddr)
    (h_cpdr : P .cpdr)
    (h_indr : P .indr)
    (h_otdr : P .otdr)
    (i : Instr) : P i := by
  cases i with
  | nop => exact h_nop
  | ldPpNn p nn => exact h_ldPpNn p nn
  | ldAtBcA => exact h_ldAtBcA
  | ldAtDeA => exact h_ldAtDeA
  | ldAtNnHl nn => exact h_ldAtNnHl nn
  | ldAtNnA nn => exact h_ldAtNnA nn
  | incPp p => exact h_incPp p
  | decPp p => exact h_decPp p
  | addHlPp p => exact h_addHlPp p
  | incB => exact h_incR .b
  | decB => exact h_decR .b
  | ldBN n => exact h_ldRN .b n
  | incC => exact h_incR .c
  | decC => exact h_decR .c
  | ldCN n => exact h_ldRN .c n
  | incD => exact h_incR .d
  | decD => exact h_decR .d
  | ldDN n => exact h_ldRN .d n
  | incE => exact h_incR .e
  | decE => exact h_decR .e
  | ldEN n => exact h_ldRN .e n
  | incH => exact h_incR .h
  | decH => exact h_decR .h
  | ldHN n => exact h_ldRN .h n
  | incL => exact h_incR .l
  | decL => exact h_decR .l
  | ldLN n => exact h_ldRN .l n
  | incA => exact h_incR .a
  | decA => exact h_decR .a
  | ldAN n => exact h_ldRN .a n
  | incAtHl => exact h_incAtHl
  | decAtHl => exact h_decAtHl
  | ldAtHlN n => exact h_ldAtHlN n
  | rlca => exact h_rlca
  | rrca => exact h_rrca
  | rla => exact h_rla
  | rra => exact h_rra
  | daa => exact h_daa
  | cpl => exact h_cpl
  | scf => exact h_scf
  | ccf => exact h_ccf
  | exAfAf => exact h_exAfAf
  | ldAAtBc => exact h_ldAAtBc
  | ldAAtDe => exact h_ldAAtDe
  | ldHlAtNn nn => exact h_ldHlAtNn nn
  | ldAAtNn nn => exact h_ldAAtNn nn
  | djnzE e => exact h_djnzE e
  | jrE e => exact h_jrE e
  | jrCcE cc e => exact h_jrCcE cc e
  | ldBB => exact h_ldRR .b .b
  | ldBC => exact h_ldRR .b .c
  | ldBD => exact h_ldRR .b .d
  | ldBE => exact h_ldRR .b .e
  | ldBH => exact h_ldRR .b .h
  | ldBL => exact h_ldRR .b .l
  | ldBA => exact h_ldRR .b .a
  | ldCB => exact h_ldRR .c .b
  | ldCC => exact h_ldRR .c .c
  | ldCD => exact h_ldRR .c .d
  | ldCE => exact h_ldRR .c .e
  | ldCH => exact h_ldRR .c .h
  | ldCL => exact h_ldRR .c .l
  | ldCA => exact h_ldRR .c .a
  | ldDB => exact h_ldRR .d .b
  | ldDC => exact h_ldRR .d .c
  | ldDD => exact h_ldRR .d .d
  | ldDE => exact h_ldRR .d .e
  | ldDH => exact h_ldRR .d .h
  | ldDL => exact h_ldRR .d .l
  | ldDA => exact h_ldRR .d .a
  | ldEB => exact h_ldRR .e .b
  | ldEC => exact h_ldRR .e .c
  | ldED => exact h_ldRR .e .d
  | ldEE => exact h_ldRR .e .e
  | ldEH => exact h_ldRR .e .h
  | ldEL => exact h_ldRR .e .l
  | ldEA => exact h_ldRR .e .a
  | ldHB => exact h_ldRR .h .b
  | ldHC => exact h_ldRR .h .c
  | ldHD => exact h_ldRR .h .d
  | ldHE => exact h_ldRR .h .e
  | ldHH => exact h_ldRR .h .h
  | breakpoint64 => exact h_breakpoint64
  | ldHL => exact h_ldRR .h .l
  | ldHA => exact h_ldRR .h .a
  | ldLB => exact h_ldRR .l .b
  | ldLC => exact h_ldRR .l .c
  | ldLD => exact h_ldRR .l .d
  | ldLE => exact h_ldRR .l .e
  | ldLH => exact h_ldRR .l .h
  | ldLL => exact h_ldRR .l .l
  | ldLA => exact h_ldRR .l .a
  | ldAB => exact h_ldRR .a .b
  | ldAC => exact h_ldRR .a .c
  | ldAD => exact h_ldRR .a .d
  | ldAE => exact h_ldRR .a .e
  | ldAH => exact h_ldRR .a .h
  | ldAL => exact h_ldRR .a .l
  | ldAA => exact h_ldRR .a .a
  | ldBAtHl => exact h_ldRAtHl .b
  | ldAtHlB => exact h_ldAtHlR .b
  | ldCAtHl => exact h_ldRAtHl .c
  | ldAtHlC => exact h_ldAtHlR .c
  | ldDAtHl => exact h_ldRAtHl .d
  | ldAtHlD => exact h_ldAtHlR .d
  | ldEAtHl => exact h_ldRAtHl .e
  | ldAtHlE => exact h_ldAtHlR .e
  | ldHAtHl => exact h_ldRAtHl .h
  | ldAtHlH => exact h_ldAtHlR .h
  | ldLAtHl => exact h_ldRAtHl .l
  | ldAtHlL => exact h_ldAtHlR .l
  | ldAAtHl => exact h_ldRAtHl .a
  | ldAtHlA => exact h_ldAtHlR .a
  | halt => exact h_halt
  | addAB => exact h_aluR .add .b
  | addAC => exact h_aluR .add .c
  | addAD => exact h_aluR .add .d
  | addAE => exact h_aluR .add .e
  | addAH => exact h_aluR .add .h
  | addAL => exact h_aluR .add .l
  | addAA => exact h_aluR .add .a
  | addAAtHl => exact h_aluAtHl .add
  | addAN n => exact h_aluN .add n
  | adcAB => exact h_aluR .adc .b
  | adcAC => exact h_aluR .adc .c
  | adcAD => exact h_aluR .adc .d
  | adcAE => exact h_aluR .adc .e
  | adcAH => exact h_aluR .adc .h
  | adcAL => exact h_aluR .adc .l
  | adcAA => exact h_aluR .adc .a
  | adcAAtHl => exact h_aluAtHl .adc
  | adcAN n => exact h_aluN .adc n
  | subB => exact h_aluR .sub .b
  | subC => exact h_aluR .sub .c
  | subD => exact h_aluR .sub .d
  | subE => exact h_aluR .sub .e
  | subH => exact h_aluR .sub .h
  | subL => exact h_aluR .sub .l
  | subA => exact h_aluR .sub .a
  | subAtHl => exact h_aluAtHl .sub
  | subN n => exact h_aluN .sub n
  | sbcAB => exact h_aluR .sbc .b
  | sbcAC => exact h_aluR .sbc .c
  | sbcAD => exact h_aluR .sbc .d
  | sbcAE => exact h_aluR .sbc .e
  | sbcAH => exact h_aluR .sbc .h
  | sbcAL => exact h_aluR .sbc .l
  | sbcAA => exact h_aluR .sbc .a
  | sbcAAtHl => exact h_aluAtHl .sbc
  | sbcAN n => exact h_aluN .sbc n
  | andB => exact h_aluR .and .b
  | andC => exact h_aluR .and .c
  | andD => exact h_aluR .and .d
  | andE => exact h_aluR .and .e
  | andH => exact h_aluR .and .h
  | andL => exact h_aluR .and .l
  | andA => exact h_aluR .and .a
  | andAtHl => exact h_aluAtHl .and
  | andN n => exact h_aluN .and n
  | xorB => exact h_aluR .xor .b
  | xorC => exact h_aluR .xor .c
  | xorD => exact h_aluR .xor .d
  | xorE => exact h_aluR .xor .e
  | xorH => exact h_aluR .xor .h
  | xorL => exact h_aluR .xor .l
  | xorA => exact h_aluR .xor .a
  | xorAtHl => exact h_aluAtHl .xor
  | xorN n => exact h_aluN .xor n
  | orB => exact h_aluR .or .b
  | orC => exact h_aluR .or .c
  | orD => exact h_aluR .or .d
  | orE => exact h_aluR .or .e
  | orH => exact h_aluR .or .h
  | orL => exact h_aluR .or .l
  | orA => exact h_aluR .or .a
  | orAtHl => exact h_aluAtHl .or
  | orN n => exact h_aluN .or n
  | cpB => exact h_aluR .cp .b
  | cpC => exact h_aluR .cp .c
  | cpD => exact h_aluR .cp .d
  | cpE => exact h_aluR .cp .e
  | cpH => exact h_aluR .cp .h
  | cpL => exact h_aluR .cp .l
  | cpA => exact h_aluR .cp .a
  | cpAtHl => exact h_aluAtHl .cp
  | cpN n => exact h_aluN .cp n
  | retCc cc => exact h_retCc cc
  | popQq q => exact h_popQq q
  | jpCcNn cc nn => exact h_jpCcNn cc nn
  | jpNn nn => exact h_jpNn nn
  | callCcNn cc nn => exact h_callCcNn cc nn
  | pushQq q => exact h_pushQq q
  | rstP p => exact h_rstP p
  | ret => exact h_ret
  | callNn nn => exact h_callNn nn
  | outPortNA n => exact h_outPortNA n
  | inAPortN n => exact h_inAPortN n
  | exx => exact h_exx
  | exAtSpHl => exact h_exAtSpHl
  | jpHl => exact h_jpHl
  | exDeHl => exact h_exDeHl
  | di => exact h_di
  | ldSpHl => exact h_ldSpHl
  | ei => exact h_ei
  | rlcB => exact h_rotR .rlc .b
  | rlcC => exact h_rotR .rlc .c
  | rlcD => exact h_rotR .rlc .d
  | rlcE => exact h_rotR .rlc .e
  | rlcH => exact h_rotR .rlc .h
  | rlcL => exact h_rotR .rlc .l
  | rlcA => exact h_rotR .rlc .a
  | rlcAtHl => exact h_rotAtHl .rlc
  | rlcAtIxd d => exact h_rotAtXyd .rlc .ix d
  | rlcAtIyd d => exact h_rotAtXyd .rlc .iy d
  | rrcB => exact h_rotR .rrc .b
  | rrcC => exact h_rotR .rrc .c
  | rrcD => exact h_rotR .rrc .d
  | rrcE => exact h_rotR .rrc .e
  | rrcH => exact h_rotR .rrc .h
  | rrcL => exact h_rotR .rrc .l
  | rrcA => exact h_rotR .rrc .a
  | rrcAtHl => exact h_rotAtHl .rrc
  | rrcAtIxd d => exact h_rotAtXyd .rrc .ix d
  | rrcAtIyd d => exact h_rotAtXyd .rrc .iy d
  | rlB => exact h_rotR .rl .b
  | rlC => exact h_rotR .rl .c
  | rlD => exact h_rotR .rl .d
  | rlE => exact h_rotR .rl .e
  | rlH => exact h_rotR .rl .h
  | rlL => exact h_rotR .rl .l
  | rlA => exact h_rotR .rl .a
  | rlAtHl => exact h_rotAtHl .rl
  | rlAtIxd d => exact h_rotAtXyd .rl .ix d
  | rlAtIyd d => exact h_rotAtXyd .rl .iy d
  | rrB => exact h_rotR .rr .b
  | rrC => exact h_rotR .rr .c
  | rrD => exact h_rotR .rr .d
  | rrE => exact h_rotR .rr .e
  | rrH => exact h_rotR .rr .h
  | rrL => exact h_rotR .rr .l
  | rrA => exact h_rotR .rr .a
  | rrAtHl => exact h_rotAtHl .rr
  | rrAtIxd d => exact h_rotAtXyd .rr .ix d
  | rrAtIyd d => exact h_rotAtXyd .rr .iy d
  | slaB => exact h_rotR .sla .b
  | slaC => exact h_rotR .sla .c
  | slaD => exact h_rotR .sla .d
  | slaE => exact h_rotR .sla .e
  | slaH => exact h_rotR .sla .h
  | slaL => exact h_rotR .sla .l
  | slaA => exact h_rotR .sla .a
  | slaAtHl => exact h_rotAtHl .sla
  | slaAtIxd d => exact h_rotAtXyd .sla .ix d
  | slaAtIyd d => exact h_rotAtXyd .sla .iy d
  | sraB => exact h_rotR .sra .b
  | sraC => exact h_rotR .sra .c
  | sraD => exact h_rotR .sra .d
  | sraE => exact h_rotR .sra .e
  | sraH => exact h_rotR .sra .h
  | sraL => exact h_rotR .sra .l
  | sraA => exact h_rotR .sra .a
  | sraAtHl => exact h_rotAtHl .sra
  | sraAtIxd d => exact h_rotAtXyd .sra .ix d
  | sraAtIyd d => exact h_rotAtXyd .sra .iy d
  | srlB => exact h_rotR .srl .b
  | srlC => exact h_rotR .srl .c
  | srlD => exact h_rotR .srl .d
  | srlE => exact h_rotR .srl .e
  | srlH => exact h_rotR .srl .h
  | srlL => exact h_rotR .srl .l
  | srlA => exact h_rotR .srl .a
  | srlAtHl => exact h_rotAtHl .srl
  | srlAtIxd d => exact h_rotAtXyd .srl .ix d
  | srlAtIyd d => exact h_rotAtXyd .srl .iy d
  | bitB b => exact h_bitR b .b
  | bitC b => exact h_bitR b .c
  | bitD b => exact h_bitR b .d
  | bitE b => exact h_bitR b .e
  | bitH b => exact h_bitR b .h
  | bitL b => exact h_bitR b .l
  | bitA b => exact h_bitR b .a
  | bitAtHl b => exact h_bitAtHl b
  | bitAtIxd b d => exact h_bitAtXyd b .ix d
  | bitAtIyd b d => exact h_bitAtXyd b .iy d
  | resB b => exact h_resR b .b
  | resC b => exact h_resR b .c
  | resD b => exact h_resR b .d
  | resE b => exact h_resR b .e
  | resH b => exact h_resR b .h
  | resL b => exact h_resR b .l
  | resA b => exact h_resR b .a
  | resAtHl b => exact h_resAtHl b
  | resAtIxd b d => exact h_resAtXyd b .ix d
  | resAtIyd b d => exact h_resAtXyd b .iy d
  | setB b => exact h_setR b .b
  | setC b => exact h_setR b .c
  | setD b => exact h_setR b .d
  | setE b => exact h_setR b .e
  | setH b => exact h_setR b .h
  | setL b => exact h_setR b .l
  | setA b => exact h_setR b .a
  | setAtHl b => exact h_setAtHl b
  | setAtIxd b d => exact h_setAtXyd b .ix d
  | setAtIyd b d => exact h_setAtXyd b .iy d
  | trap => exact h_trap
  | inBPortC => exact h_inRPortC .b
  | outPortCB => exact h_outPortCR .b
  | inCPortC => exact h_inRPortC .c
  | outPortCC => exact h_outPortCR .c
  | inDPortC => exact h_inRPortC .d
  | outPortCD => exact h_outPortCR .d
  | inEPortC => exact h_inRPortC .e
  | outPortCE => exact h_outPortCR .e
  | inHPortC => exact h_inRPortC .h
  | outPortCH => exact h_outPortCR .h
  | inLPortC => exact h_inRPortC .l
  | outPortCL => exact h_outPortCR .l
  | inAPortC => exact h_inRPortC .a
  | outPortCA => exact h_outPortCR .a
  | sbcHlPp p => exact h_sbcHlPp p
  | adcHlPp p => exact h_adcHlPp p
  | ldAtNnPp nn p => exact h_ldAtNnPp nn p
  | ldPpAtNn p nn => exact h_ldPpAtNn p nn
  | neg => exact h_neg
  | retn => exact h_retn
  | im0 => exact h_im0
  | im1 => exact h_im1
  | im2 => exact h_im2
  | ldIA => exact h_ldIA
  | ldAI => exact h_ldAI
  | reti => exact h_reti
  | rrd => exact h_rrd
  | rld => exact h_rld
  | ldi => exact h_ldi
  | cpi => exact h_cpi
  | ini => exact h_ini
  | outi => exact h_outi
  | ldd => exact h_ldd
  | cpd => exact h_cpd
  | ind => exact h_ind
  | outd => exact h_outd
  | ldir => exact h_ldir
  | cpir => exact h_cpir
  | inir => exact h_inir
  | otir => exact h_otir
  | lddr => exact h_lddr
  | cpdr => exact h_cpdr
  | indr => exact h_indr
  | otdr => exact h_otdr
  | addIxPp p => exact h_addXyPp .ix p
  | ldIxNn nn => exact h_ldXyNn .ix nn
  | ldAtNnIx nn => exact h_ldAtNnXy nn .ix
  | incIx => exact h_incXy .ix
  | ldIxAtNn nn => exact h_ldXyAtNn .ix nn
  | decIx => exact h_decXy .ix
  | incAtIxd d => exact h_incAtXyd .ix d
  | decAtIxd d => exact h_decAtXyd .ix d
  | ldAtIxdN d n => exact h_ldAtXydN .ix d n
  | ldBAtIxd d => exact h_ldRAtXyd .b .ix d
  | ldAtIxdB d => exact h_ldAtXydR .ix d .b
  | ldCAtIxd d => exact h_ldRAtXyd .c .ix d
  | ldAtIxdC d => exact h_ldAtXydR .ix d .c
  | ldDAtIxd d => exact h_ldRAtXyd .d .ix d
  | ldAtIxdD d => exact h_ldAtXydR .ix d .d
  | ldEAtIxd d => exact h_ldRAtXyd .e .ix d
  | ldAtIxdE d => exact h_ldAtXydR .ix d .e
  | ldHAtIxd d => exact h_ldRAtXyd .h .ix d
  | ldAtIxdH d => exact h_ldAtXydR .ix d .h
  | ldLAtIxd d => exact h_ldRAtXyd .l .ix d
  | ldAtIxdL d => exact h_ldAtXydR .ix d .l
  | ldAAtIxd d => exact h_ldRAtXyd .a .ix d
  | ldAtIxdA d => exact h_ldAtXydR .ix d .a
  | addAAtIxd d => exact h_aluAtXyd .add .ix d
  | adcAAtIxd d => exact h_aluAtXyd .adc .ix d
  | subAtIxd d => exact h_aluAtXyd .sub .ix d
  | sbcAAtIxd d => exact h_aluAtXyd .sbc .ix d
  | andAtIxd d => exact h_aluAtXyd .and .ix d
  | xorAtIxd d => exact h_aluAtXyd .xor .ix d
  | orAtIxd d => exact h_aluAtXyd .or .ix d
  | cpAtIxd d => exact h_aluAtXyd .cp .ix d
  | popIx => exact h_popXy .ix
  | exAtSpIx => exact h_exAtSpXy .ix
  | pushIx => exact h_pushXy .ix
  | jpIx => exact h_jpXy .ix
  | ldSpIx => exact h_ldSpXy .ix
  | addIyPp p => exact h_addXyPp .iy p
  | ldIyNn nn => exact h_ldXyNn .iy nn
  | ldAtNnIy nn => exact h_ldAtNnXy nn .iy
  | incIy => exact h_incXy .iy
  | ldIyAtNn nn => exact h_ldXyAtNn .iy nn
  | decIy => exact h_decXy .iy
  | incAtIyd d => exact h_incAtXyd .iy d
  | decAtIyd d => exact h_decAtXyd .iy d
  | ldAtIydN d n => exact h_ldAtXydN .iy d n
  | ldBAtIyd d => exact h_ldRAtXyd .b .iy d
  | ldAtIydB d => exact h_ldAtXydR .iy d .b
  | ldCAtIyd d => exact h_ldRAtXyd .c .iy d
  | ldAtIydC d => exact h_ldAtXydR .iy d .c
  | ldDAtIyd d => exact h_ldRAtXyd .d .iy d
  | ldAtIydD d => exact h_ldAtXydR .iy d .d
  | ldEAtIyd d => exact h_ldRAtXyd .e .iy d
  | ldAtIydE d => exact h_ldAtXydR .iy d .e
  | ldHAtIyd d => exact h_ldRAtXyd .h .iy d
  | ldAtIydH d => exact h_ldAtXydR .iy d .h
  | ldLAtIyd d => exact h_ldRAtXyd .l .iy d
  | ldAtIydL d => exact h_ldAtXydR .iy d .l
  | ldAAtIyd d => exact h_ldRAtXyd .a .iy d
  | ldAtIydA d => exact h_ldAtXydR .iy d .a
  | addAAtIyd d => exact h_aluAtXyd .add .iy d
  | adcAAtIyd d => exact h_aluAtXyd .adc .iy d
  | subAtIyd d => exact h_aluAtXyd .sub .iy d
  | sbcAAtIyd d => exact h_aluAtXyd .sbc .iy d
  | andAtIyd d => exact h_aluAtXyd .and .iy d
  | xorAtIyd d => exact h_aluAtXyd .xor .iy d
  | orAtIyd d => exact h_aluAtXyd .or .iy d
  | cpAtIyd d => exact h_aluAtXyd .cp .iy d
  | popIy => exact h_popXy .iy
  | exAtSpIy => exact h_exAtSpXy .iy
  | pushIy => exact h_pushXy .iy
  | jpIy => exact h_jpXy .iy
  | ldSpIy => exact h_ldSpXy .iy

end Sys2Proof.Machine
end

