-- ==== Sys2Proof/Laws/Frames.lean ====
section
/-! SUPPORT. What each operation leaves unchanged, in the words of Safety.lean, and how such facts are put
together. A frame proof cites these and unfolds no record update. -/

namespace Sys2Proof.Machine

theorem SameRegsBut.refl (l : List RegName) (s : State) : SameRegsBut l s s := fun _ _ => rfl

theorem SameRegsBut.trans {k l m : List RegName} {s t u : State} (h1 : SameRegsBut k s t)
    (h2 : SameRegsBut l t u) (hk : k ⊆ m) (hl : l ⊆ m) : SameRegsBut m s u :=
  fun n hn => (h2 n (fun h => hn (hl h))).trans (h1 n (fun h => hn (hk h)))

theorem SameRegsBut.mono {k m : List RegName} {s t : State} (h : SameRegsBut k s t) (hk : k ⊆ m) :
    SameRegsBut m s t := fun n hn => h n (fun h' => hn (hk h'))

/-- Equal register fields read alike. -/
theorem sameRegs_of_fields {s t : State} (h1 : t.main = s.main) (h2 : t.alt = s.alt) (h3 : t.ix = s.ix)
    (h4 : t.iy = s.iy) (h5 : t.sp = s.sp) (h6 : t.pc = s.pc) (h7 : t.ireg = s.ireg)
    (h8 : t.iff1 = s.iff1) (h9 : t.iff2 = s.iff2) (h10 : t.im = s.im) (l : List RegName) :
    SameRegsBut l s t := by
  intro n _
  cases n <;> simp only [State.readReg, h1, h2, h3, h4, h5, h6, h7, h8, h9, h10]

theorem frame_setReg (s : State) (r : Reg8) (v : Byte) : SameRegsBut [nameOf r] s (s.setReg r v) := by
  intro n hn
  cases r <;> cases n <;> first | rfl | exact absurd (List.mem_singleton.2 rfl) hn

theorem frame_setA (s : State) (v : Byte) : SameRegsBut [.a] s (s.setA v) := frame_setReg s .a v

theorem frame_setB (s : State) (v : Byte) : SameRegsBut [.b] s (s.setB v) := frame_setReg s .b v

theorem frame_setPair (s : State) (p : Pair) (w : Word) : SameRegsBut (pairNames p) s (s.setPair p w) := by
  intro n hn
  cases p <;> cases n <;> first | rfl | exact absurd (by simp [pairNames]) hn

theorem frame_setBc (s : State) (w : Word) : SameRegsBut [.b, .c] s (s.setBc w) := frame_setPair s .bc w

theorem frame_setDe (s : State) (w : Word) : SameRegsBut [.d, .e] s (s.setDe w) := frame_setPair s .de w

theorem frame_setHl (s : State) (w : Word) : SameRegsBut [.h, .l] s (s.setHl w) := frame_setPair s .hl w

theorem frame_setSp (s : State) (w : Word) : SameRegsBut [.sp] s (s.setSp w) := frame_setPair s .sp w

theorem frame_setPairQ (s : State) (q : PairQ) (w : Word) :
    SameRegsBut (pairQNames q) s (s.setPairQ q w) := by
  intro n hn
  cases q <;> cases n <;> first | rfl | exact absurd (by simp [pairQNames]) hn

theorem frame_setIdx (s : State) (x : Idx) (w : Word) : SameRegsBut [idxName x] s (s.setIdx x w) := by
  intro n hn
  cases x <;> cases n <;> first | rfl | exact absurd (List.mem_singleton.2 rfl) hn

theorem frame_setPc (s : State) (w : Word) : SameRegsBut [.pc] s (s.setPc w) := by
  intro n hn
  cases n <;> first | rfl | exact absurd (List.mem_singleton.2 rfl) hn

theorem frame_putFlagsWith (s : State) (fl : Flags) (f5 f3 : Bool) :
    SameRegsBut [.f] s (s.putFlagsWith fl f5 f3) := by
  intro n hn
  cases n <;> first | rfl | exact absurd (List.mem_singleton.2 rfl) hn

theorem frame_putFlags (s : State) (fl : Flags) : SameRegsBut [.f] s (s.putFlags fl) := by
  intro n hn
  cases n <;> first | rfl | exact absurd (List.mem_singleton.2 rfl) hn

theorem frame_memRead (s : State) (a : Word) (l : List RegName) : SameRegsBut l s (s.memRead a) := by
  apply sameRegs_of_fields <;> simp

theorem frame_memWrite (s : State) (a : Word) (v : Byte) (l : List RegName) :
    SameRegsBut l s (s.memWrite a v) := by
  apply sameRegs_of_fields <;> simp

theorem frame_memRead16 (s : State) (a : Word) (l : List RegName) : SameRegsBut l s (s.memRead16 a) := by
  apply sameRegs_of_fields <;> simp

theorem frame_memWrite16 (s : State) (a w : Word) (l : List RegName) :
    SameRegsBut l s (s.memWrite16 a w) := by
  apply sameRegs_of_fields <;> simp

theorem frame_operandRead (s : State) (o : Operand) (l : List RegName) :
    SameRegsBut l s (s.operandRead o) := by
  apply sameRegs_of_fields <;> simp

theorem frame_ioRead (s : State) (p : Word) (l : List RegName) : SameRegsBut l s (s.ioRead p) := by
  apply sameRegs_of_fields <;> simp

theorem frame_ioWrite (s : State) (p : Word) (v : Byte) (l : List RegName) :
    SameRegsBut l s (s.ioWrite p v) := by
  apply sameRegs_of_fields <;> simp

theorem frame_push16 (s : State) (w : Word) : SameRegsBut [.sp] s (s.push16 w) := by
  intro n hn
  cases n <;> first | exact absurd (List.mem_singleton.2 rfl) hn | simp [State.readReg]

theorem frame_pop16 (s : State) : SameRegsBut [.sp] s s.pop16 := by
  intro n hn
  cases n <;> first | exact absurd (List.mem_singleton.2 rfl) hn | simp [State.readReg]

theorem frame_enterAt (s : State) (w : Word) : SameRegsBut [.sp, .pc] s (s.enterAt w) :=
  (frame_push16 s s.pc).trans (frame_setPc _ w) (by simp) (by simp)

theorem frame_popPc (s : State) : SameRegsBut [.sp, .pc] s s.popPc :=
  (frame_pop16 s).trans (frame_setPc _ _) (by simp) (by simp)

theorem SameMem.refl (s : State) : SameMem s s := fun _ => rfl

theorem SameControl.refl (s : State) : SameControl s s := ⟨rfl, rfl, rfl, rfl, rfl, rfl, rfl, rfl⟩

theorem SameControl.trans {s t u : State} (h1 : SameControl s t) (h2 : SameControl t u) :
    SameControl s u := by
  obtain ⟨a1, a2, a3, a4, a5, a6, a7, a8⟩ := h1
  obtain ⟨b1, b2, b3, b4, b5, b6, b7, b8⟩ := h2
  exact ⟨b1.trans a1, b2.trans a2, b3.trans a3, b4.trans a4, b5.trans a5, b6.trans a6, b7.trans a7,
    b8.trans a8⟩

theorem stores_memWrite (s : State) (a : Word) (v : Byte) : Stores s (s.memWrite a v) a v := by
  refine ⟨fun x hx => ?_, fun h => ?_, fun h => ?_⟩
  · simp [hx]
  · simp [h]
  · simp [h]

theorem peek_memWrite16 (s : State) (a w x : Word) : (s.memWrite16 a w).peek x =
    if x = a + 1 ∧ s.kindAt (a + 1) = .ram then hi w
    else if x = a ∧ s.kindAt a = .ram then lo w else s.peek x := by
  simp [State.memWrite16]

theorem storesWord_memWrite16 (s : State) (a w : Word) : StoresWord s (s.memWrite16 a w) a w := by
  have hne : a ≠ a + 1 := by bv_omega
  refine ⟨fun x hx hx1 => ?_, fun h => ?_, fun h => ?_, fun h => ?_, fun h => ?_⟩ <;>
    rw [peek_memWrite16] <;> simp only [*, if_true, if_false, and_self, and_false, false_and,
      hne.symm]

/-- The two stores of a push leave the word low byte first at the new `SP` (20_memory.md R70). -/
theorem storesWord_push16 (s : State) (w : Word) : StoresWord s (s.push16 w) (s.sp - 2) w := by
  have e : s.sp - 2 + 1 = s.sp - 1 := by bv_omega
  have hne : s.sp - 2 ≠ s.sp - 1 := by bv_omega
  have hpeek : ∀ x, (s.push16 w).peek x =
      if x = s.sp - 2 ∧ s.kindAt (s.sp - 2) = .ram then lo w
      else if x = s.sp - 1 ∧ s.kindAt (s.sp - 1) = .ram then hi w else s.peek x := by
    intro x
    have : (s.push16 w).peek x = ((s.memWrite (s.sp - 1) (hi w)).memWrite (s.sp - 2) (lo w)).peek x := rfl
    rw [this]
    simp
  refine ⟨fun x hx hx1 => ?_, fun h => ?_, fun h => ?_, fun h => ?_, fun h => ?_⟩ <;>
    rw [hpeek] <;> simp_all

/-- What a read cycle answers where memory answers it (20_memory.md R76). -/
theorem memIn_of_holdsData {s : State} {a : Word} (h : holdsData (s.kindAt a) = true) :
    s.memIn a = s.peek a := by
  simp [State.memIn, h]

/-- A 16-bit read where memory answers both reads (20_memory.md R60). -/
theorem memIn16_of_holdsData {s : State} {a : Word} (h : holdsData (s.kindAt a) = true)
    (h1 : holdsData (s.kindAt (a + 1)) = true) : s.memIn16 a = join (s.peek (a + 1)) (s.peek a) := by
  have e : (s.memRead a).memIn (a + 1) = s.peek (a + 1) := by
    unfold State.memIn
    rw [memRead_kindAt, memRead_peek, if_pos h1]
  rw [State.memIn16, e, memIn_of_holdsData h]

theorem SameMem.trans {s t u : State} (h1 : SameMem s t) (h2 : SameMem t u) : SameMem s u :=
  fun a => (h2 a).trans (h1 a)

theorem Accesses.trans {s t u : State} {e f : List BusEvent} (h1 : Accesses s t e) (h2 : Accesses t u f) :
    Accesses s u (e ++ f) := by
  unfold Accesses at *
  rw [h2, h1]
  simp

/-! ### What each operation does and leaves alone, whole -/

/-- Facts about fields put together; each is `rfl` or a lemma of `Laws/State.lean`. -/
theorem onlyReads_of_fields {l : List RegName} {e : List BusEvent} {s t : State} (hr : SameRegsBut l s t)
    (h1 : t.eiShadow = s.eiShadow) (h2 : t.nmiPending = s.nmiPending) (h3 : t.halted = s.halted)
    (h4 : t.busGranted = s.busGranted) (h5 : t.debugStopped = s.debugStopped)
    (h6 : t.platform = s.platform) (h7 : t.debugEnable = s.debugEnable) (h8 : t.inputs = s.inputs)
    (hm : t.mem = s.mem) (hb : t.bus = e.reverse ++ s.bus) : OnlyReads l e s t :=
  ⟨hr, ⟨h1, h2, h3, h4, h5, h6, h7, h8⟩, fun a => by unfold State.peek; rw [hm], hb⟩

theorem OnlyReads.refl (s : State) : OnlyReads [] [] s s :=
  onlyReads_of_fields (SameRegsBut.refl [] s) rfl rfl rfl rfl rfl rfl rfl rfl rfl rfl

/-- Two operations in a row. -/
theorem OnlyReads.trans {k l m : List RegName} {e f : List BusEvent} {s t u : State}
    (h1 : OnlyReads k e s t) (h2 : OnlyReads l f t u) (hk : k ⊆ m) (hl : l ⊆ m) :
    OnlyReads m (e ++ f) s u :=
  ⟨h1.1.trans h2.1 hk hl, h1.2.1.trans h2.2.1, h1.2.2.1.trans h2.2.2.1, h1.2.2.2.trans h2.2.2.2⟩

theorem OnlyReads.mono {k m : List RegName} {e : List BusEvent} {s t : State} (h : OnlyReads k e s t)
    (hk : k ⊆ m) : OnlyReads m e s t := ⟨h.1.mono hk, h.2⟩

/-- Reads before a store. -/
theorem OnlyStores.after {k l m : List RegName} {e f : List BusEvent} {a : Word} {v : Byte} {s t u : State}
    (h1 : OnlyReads k e s t) (h2 : OnlyStores l a v f t u) (hk : k ⊆ m) (hl : l ⊆ m) :
    OnlyStores m a v (e ++ f) s u := by
  have hkind : t.kindAt a = s.kindAt a := by unfold State.kindAt; rw [h1.2.1.2.2.2.2.2.1]
  obtain ⟨g1, g2, g3⟩ := h2.2.2.1
  refine ⟨h1.1.trans h2.1 hk hl, h1.2.1.trans h2.2.1, ⟨fun x hx => ?_, fun h => ?_, fun h => ?_⟩,
    h1.2.2.2.trans h2.2.2.2⟩
  · rw [g1 x hx, h1.2.2.1 x]
  · exact g2 (hkind.trans h)
  · rw [g3 (by rw [hkind]; exact h), h1.2.2.1 a]

/-- Register changes after a store. -/
theorem OnlyStores.before {k l m : List RegName} {e f : List BusEvent} {a : Word} {v : Byte} {s t u : State}
    (h1 : OnlyStores k a v e s t) (h2 : OnlyReads l f t u) (hk : k ⊆ m) (hl : l ⊆ m) :
    OnlyStores m a v (e ++ f) s u := by
  obtain ⟨g1, g2, g3⟩ := h1.2.2.1
  refine ⟨h1.1.trans h2.1 hk hl, h1.2.1.trans h2.2.1, ⟨fun x hx => ?_, fun h => ?_, fun h => ?_⟩,
    h1.2.2.2.trans h2.2.2.2⟩ <;> rw [h2.2.2.1]
  · exact g1 x hx
  · exact g2 h
  · exact g3 h

/-- Reads before the two stores of a word. -/
theorem OnlyStoresWord.after {k l m : List RegName} {e f : List BusEvent} {a w : Word} {s t u : State}
    (h1 : OnlyReads k e s t) (h2 : OnlyStoresWord l a w f t u) (hk : k ⊆ m) (hl : l ⊆ m) :
    OnlyStoresWord m a w (e ++ f) s u := by
  have hkind : ∀ x, t.kindAt x = s.kindAt x := fun x => by unfold State.kindAt; rw [h1.2.1.2.2.2.2.2.1]
  obtain ⟨g1, g2, g3, g4, g5⟩ := h2.2.2.1
  refine ⟨h1.1.trans h2.1 hk hl, h1.2.1.trans h2.2.1,
    ⟨fun x hx hx1 => ?_, fun h => ?_, fun h => ?_, fun h => ?_, fun h => ?_⟩, h1.2.2.2.trans h2.2.2.2⟩
  · rw [g1 x hx hx1, h1.2.2.1 x]
  · exact g2 ((hkind _).trans h)
  · rw [g3 (by rw [hkind]; exact h), h1.2.2.1]
  · exact g4 ((hkind _).trans h)
  · rw [g5 (by rw [hkind]; exact h), h1.2.2.1]

/-- Register changes after the two stores of a word. -/
theorem OnlyStoresWord.before {k l m : List RegName} {e f : List BusEvent} {a w : Word} {s t u : State}
    (h1 : OnlyStoresWord k a w e s t) (h2 : OnlyReads l f t u) (hk : k ⊆ m) (hl : l ⊆ m) :
    OnlyStoresWord m a w (e ++ f) s u := by
  obtain ⟨g1, g2, g3, g4, g5⟩ := h1.2.2.1
  refine ⟨h1.1.trans h2.1 hk hl, h1.2.1.trans h2.2.1,
    ⟨fun x hx hx1 => ?_, fun h => ?_, fun h => ?_, fun h => ?_, fun h => ?_⟩, h1.2.2.2.trans h2.2.2.2⟩ <;>
    rw [h2.2.2.1]
  · exact g1 x hx hx1
  · exact g2 h
  · exact g3 h
  · exact g4 h
  · exact g5 h

theorem only_setReg (s : State) (r : Reg8) (v : Byte) : OnlyReads [nameOf r] [] s (s.setReg r v) := by
  apply onlyReads_of_fields (frame_setReg s r v) <;> cases r <;> rfl

theorem only_setA (s : State) (v : Byte) : OnlyReads [.a] [] s (s.setA v) := only_setReg s .a v

theorem only_setB (s : State) (v : Byte) : OnlyReads [.b] [] s (s.setB v) := only_setReg s .b v

theorem only_setPair (s : State) (p : Pair) (w : Word) : OnlyReads (pairNames p) [] s (s.setPair p w) := by
  apply onlyReads_of_fields (frame_setPair s p w) <;> cases p <;> rfl

theorem only_setBc (s : State) (w : Word) : OnlyReads [.b, .c] [] s (s.setBc w) := only_setPair s .bc w

theorem only_setDe (s : State) (w : Word) : OnlyReads [.d, .e] [] s (s.setDe w) := only_setPair s .de w

theorem only_setHl (s : State) (w : Word) : OnlyReads [.h, .l] [] s (s.setHl w) := only_setPair s .hl w

theorem only_setSp (s : State) (w : Word) : OnlyReads [.sp] [] s (s.setSp w) := only_setPair s .sp w

theorem only_setPairQ (s : State) (q : PairQ) (w : Word) :
    OnlyReads (pairQNames q) [] s (s.setPairQ q w) := by
  apply onlyReads_of_fields (frame_setPairQ s q w) <;> cases q <;> rfl

theorem only_setIdx (s : State) (x : Idx) (w : Word) : OnlyReads [idxName x] [] s (s.setIdx x w) := by
  apply onlyReads_of_fields (frame_setIdx s x w) <;> cases x <;> rfl

theorem only_setPc (s : State) (w : Word) : OnlyReads [.pc] [] s (s.setPc w) := by
  apply onlyReads_of_fields (frame_setPc s w) <;> rfl

theorem only_putFlagsWith (s : State) (fl : Flags) (f5 f3 : Bool) :
    OnlyReads [.f] [] s (s.putFlagsWith fl f5 f3) := by
  apply onlyReads_of_fields (frame_putFlagsWith s fl f5 f3) <;> rfl

theorem only_putFlags (s : State) (fl : Flags) : OnlyReads [.f] [] s (s.putFlags fl) := by
  apply onlyReads_of_fields (frame_putFlags s fl) <;> rfl

theorem only_memRead (s : State) (a : Word) :
    OnlyReads [] [.memRead a (s.memIn a)] s (s.memRead a) := by
  apply onlyReads_of_fields (frame_memRead s a []) <;> simp [State.memRead]

theorem only_memRead16 (s : State) (a : Word) :
    OnlyReads [] [.memRead a (s.memIn a), .memRead (a + 1) ((s.memRead a).memIn (a + 1))] s (s.memRead16 a) :=
  (only_memRead s a).trans (only_memRead _ (a + 1)) (by simp) (by simp)

theorem only_ioRead (s : State) (p : Word) : OnlyReads [] [.ioRead p s.sfrIn] s (s.ioRead p) := by
  apply onlyReads_of_fields (frame_ioRead s p []) <;> simp [State.ioRead]

theorem only_ioWrite (s : State) (p : Word) (v : Byte) : OnlyReads [] [.ioWrite p v] s (s.ioWrite p v) := by
  apply onlyReads_of_fields (frame_ioWrite s p v []) <;> rfl

theorem only_memWrite (s : State) (a : Word) (v : Byte) :
    OnlyStores [] a v [.memWrite a v] s (s.memWrite a v) :=
  ⟨frame_memWrite s a v [], by refine ⟨?_, ?_, ?_, ?_, ?_, ?_, ?_, ?_⟩ <;> simp, stores_memWrite s a v, by
    simp [Accesses, State.memWrite]⟩

theorem only_memWrite16 (s : State) (a w : Word) :
    OnlyStoresWord [] a w [.memWrite a (lo w), .memWrite (a + 1) (hi w)] s (s.memWrite16 a w) :=
  ⟨frame_memWrite16 s a w [], (only_memWrite s a (lo w)).2.1.trans (only_memWrite _ (a + 1) (hi w)).2.1,
    storesWord_memWrite16 s a w,
    (only_memWrite s a (lo w)).2.2.2.trans (only_memWrite _ (a + 1) (hi w)).2.2.2⟩

theorem only_push16 (s : State) (w : Word) :
    OnlyStoresWord [.sp] (s.sp - 2) w [.memWrite (s.sp - 1) (hi w), .memWrite (s.sp - 2) (lo w)] s
      (s.push16 w) :=
  ⟨frame_push16 s w,
    ((only_memWrite s _ (hi w)).2.1.trans (only_memWrite _ _ (lo w)).2.1).trans (only_setSp _ _).2.1,
    storesWord_push16 s w,
    ((only_memWrite s _ (hi w)).2.2.2.trans (only_memWrite _ _ (lo w)).2.2.2).trans (only_setSp _ _).2.2.2⟩

theorem only_pop16 (s : State) :
    OnlyReads [.sp] [.memRead s.sp (s.memIn s.sp), .memRead (s.sp + 1) ((s.memRead s.sp).memIn (s.sp + 1))] s
      s.pop16 :=
  (only_memRead16 s s.sp).trans (only_setSp _ _) (by simp) (by simp)

theorem only_popPc (s : State) :
    OnlyReads [.sp, .pc]
      [.memRead s.sp (s.memIn s.sp), .memRead (s.sp + 1) ((s.memRead s.sp).memIn (s.sp + 1))] s s.popPc :=
  (only_pop16 s).trans (only_setPc _ _) (by simp) (by simp)

theorem only_enterAt (s : State) (w : Word) :
    OnlyStoresWord [.sp, .pc] (s.sp - 2) s.pc
      [.memWrite (s.sp - 1) (hi s.pc), .memWrite (s.sp - 2) (lo s.pc)] s (s.enterAt w) :=
  (only_push16 s s.pc).before (only_setPc _ w) (by simp) (by simp)

end Sys2Proof.Machine
end

