-- ==== Sys2Proof/Laws/PerInstr.lean ====
section
/-! SUPPORT. Statements about every instruction, one lemma per constructor. -/

namespace Sys2Proof.Laws

/-- An instruction is one to four bytes long (30_encoding.md R90). -/
def EncodeLength.Statement (i : Instr) : Prop := 1 ≤ (encode i).length ∧ (encode i).length ≤ 4

theorem EncodeLength.ldPpNn (p : Pair) (nn : Word) : EncodeLength.Statement (.ldPpNn p nn) := ⟨Nat.le_of_ble_eq_true rfl, Nat.le_of_ble_eq_true rfl⟩
theorem EncodeLength.ldAtNnHl (nn : Word) : EncodeLength.Statement (.ldAtNnHl nn) := ⟨Nat.le_of_ble_eq_true rfl, Nat.le_of_ble_eq_true rfl⟩
theorem EncodeLength.ldAtNnA (nn : Word) : EncodeLength.Statement (.ldAtNnA nn) := ⟨Nat.le_of_ble_eq_true rfl, Nat.le_of_ble_eq_true rfl⟩
theorem EncodeLength.incPp (p : Pair) : EncodeLength.Statement (.incPp p) := ⟨Nat.le_of_ble_eq_true rfl, Nat.le_of_ble_eq_true rfl⟩
theorem EncodeLength.decPp (p : Pair) : EncodeLength.Statement (.decPp p) := ⟨Nat.le_of_ble_eq_true rfl, Nat.le_of_ble_eq_true rfl⟩
theorem EncodeLength.addHlPp (p : Pair) : EncodeLength.Statement (.addHlPp p) := ⟨Nat.le_of_ble_eq_true rfl, Nat.le_of_ble_eq_true rfl⟩
theorem EncodeLength.ldBN (n : Byte) : EncodeLength.Statement (.ldBN n) := ⟨Nat.le_of_ble_eq_true rfl, Nat.le_of_ble_eq_true rfl⟩
theorem EncodeLength.ldCN (n : Byte) : EncodeLength.Statement (.ldCN n) := ⟨Nat.le_of_ble_eq_true rfl, Nat.le_of_ble_eq_true rfl⟩
theorem EncodeLength.ldDN (n : Byte) : EncodeLength.Statement (.ldDN n) := ⟨Nat.le_of_ble_eq_true rfl, Nat.le_of_ble_eq_true rfl⟩
theorem EncodeLength.ldEN (n : Byte) : EncodeLength.Statement (.ldEN n) := ⟨Nat.le_of_ble_eq_true rfl, Nat.le_of_ble_eq_true rfl⟩
theorem EncodeLength.ldHN (n : Byte) : EncodeLength.Statement (.ldHN n) := ⟨Nat.le_of_ble_eq_true rfl, Nat.le_of_ble_eq_true rfl⟩
theorem EncodeLength.ldLN (n : Byte) : EncodeLength.Statement (.ldLN n) := ⟨Nat.le_of_ble_eq_true rfl, Nat.le_of_ble_eq_true rfl⟩
theorem EncodeLength.ldAN (n : Byte) : EncodeLength.Statement (.ldAN n) := ⟨Nat.le_of_ble_eq_true rfl, Nat.le_of_ble_eq_true rfl⟩
theorem EncodeLength.ldAtHlN (n : Byte) : EncodeLength.Statement (.ldAtHlN n) := ⟨Nat.le_of_ble_eq_true rfl, Nat.le_of_ble_eq_true rfl⟩
theorem EncodeLength.ldHlAtNn (nn : Word) : EncodeLength.Statement (.ldHlAtNn nn) := ⟨Nat.le_of_ble_eq_true rfl, Nat.le_of_ble_eq_true rfl⟩
theorem EncodeLength.ldAAtNn (nn : Word) : EncodeLength.Statement (.ldAAtNn nn) := ⟨Nat.le_of_ble_eq_true rfl, Nat.le_of_ble_eq_true rfl⟩
theorem EncodeLength.djnzE (e : Byte) : EncodeLength.Statement (.djnzE e) := ⟨Nat.le_of_ble_eq_true rfl, Nat.le_of_ble_eq_true rfl⟩
theorem EncodeLength.jrE (e : Byte) : EncodeLength.Statement (.jrE e) := ⟨Nat.le_of_ble_eq_true rfl, Nat.le_of_ble_eq_true rfl⟩
theorem EncodeLength.jrCcE (cc : Cond4) (e : Byte) : EncodeLength.Statement (.jrCcE cc e) := ⟨Nat.le_of_ble_eq_true rfl, Nat.le_of_ble_eq_true rfl⟩
theorem EncodeLength.addAN (n : Byte) : EncodeLength.Statement (.addAN n) := ⟨Nat.le_of_ble_eq_true rfl, Nat.le_of_ble_eq_true rfl⟩
theorem EncodeLength.adcAN (n : Byte) : EncodeLength.Statement (.adcAN n) := ⟨Nat.le_of_ble_eq_true rfl, Nat.le_of_ble_eq_true rfl⟩
theorem EncodeLength.subN (n : Byte) : EncodeLength.Statement (.subN n) := ⟨Nat.le_of_ble_eq_true rfl, Nat.le_of_ble_eq_true rfl⟩
theorem EncodeLength.sbcAN (n : Byte) : EncodeLength.Statement (.sbcAN n) := ⟨Nat.le_of_ble_eq_true rfl, Nat.le_of_ble_eq_true rfl⟩
theorem EncodeLength.andN (n : Byte) : EncodeLength.Statement (.andN n) := ⟨Nat.le_of_ble_eq_true rfl, Nat.le_of_ble_eq_true rfl⟩
theorem EncodeLength.xorN (n : Byte) : EncodeLength.Statement (.xorN n) := ⟨Nat.le_of_ble_eq_true rfl, Nat.le_of_ble_eq_true rfl⟩
theorem EncodeLength.orN (n : Byte) : EncodeLength.Statement (.orN n) := ⟨Nat.le_of_ble_eq_true rfl, Nat.le_of_ble_eq_true rfl⟩
theorem EncodeLength.cpN (n : Byte) : EncodeLength.Statement (.cpN n) := ⟨Nat.le_of_ble_eq_true rfl, Nat.le_of_ble_eq_true rfl⟩
theorem EncodeLength.retCc (cc : Cond) : EncodeLength.Statement (.retCc cc) := ⟨Nat.le_of_ble_eq_true rfl, Nat.le_of_ble_eq_true rfl⟩
theorem EncodeLength.popQq (q : PairQ) : EncodeLength.Statement (.popQq q) := ⟨Nat.le_of_ble_eq_true rfl, Nat.le_of_ble_eq_true rfl⟩
theorem EncodeLength.jpCcNn (cc : Cond) (nn : Word) : EncodeLength.Statement (.jpCcNn cc nn) := ⟨Nat.le_of_ble_eq_true rfl, Nat.le_of_ble_eq_true rfl⟩
theorem EncodeLength.jpNn (nn : Word) : EncodeLength.Statement (.jpNn nn) := ⟨Nat.le_of_ble_eq_true rfl, Nat.le_of_ble_eq_true rfl⟩
theorem EncodeLength.callCcNn (cc : Cond) (nn : Word) : EncodeLength.Statement (.callCcNn cc nn) := ⟨Nat.le_of_ble_eq_true rfl, Nat.le_of_ble_eq_true rfl⟩
theorem EncodeLength.pushQq (q : PairQ) : EncodeLength.Statement (.pushQq q) := ⟨Nat.le_of_ble_eq_true rfl, Nat.le_of_ble_eq_true rfl⟩
theorem EncodeLength.rstP (p : Byte) : EncodeLength.Statement (.rstP p) := ⟨Nat.le_of_ble_eq_true rfl, Nat.le_of_ble_eq_true rfl⟩
theorem EncodeLength.callNn (nn : Word) : EncodeLength.Statement (.callNn nn) := ⟨Nat.le_of_ble_eq_true rfl, Nat.le_of_ble_eq_true rfl⟩
theorem EncodeLength.outPortNA (n : Byte) : EncodeLength.Statement (.outPortNA n) := ⟨Nat.le_of_ble_eq_true rfl, Nat.le_of_ble_eq_true rfl⟩
theorem EncodeLength.inAPortN (n : Byte) : EncodeLength.Statement (.inAPortN n) := ⟨Nat.le_of_ble_eq_true rfl, Nat.le_of_ble_eq_true rfl⟩
theorem EncodeLength.rlcAtIxd (d : Byte) : EncodeLength.Statement (.rlcAtIxd d) := ⟨Nat.le_of_ble_eq_true rfl, Nat.le_of_ble_eq_true rfl⟩
theorem EncodeLength.rlcAtIyd (d : Byte) : EncodeLength.Statement (.rlcAtIyd d) := ⟨Nat.le_of_ble_eq_true rfl, Nat.le_of_ble_eq_true rfl⟩
theorem EncodeLength.rrcAtIxd (d : Byte) : EncodeLength.Statement (.rrcAtIxd d) := ⟨Nat.le_of_ble_eq_true rfl, Nat.le_of_ble_eq_true rfl⟩
theorem EncodeLength.rrcAtIyd (d : Byte) : EncodeLength.Statement (.rrcAtIyd d) := ⟨Nat.le_of_ble_eq_true rfl, Nat.le_of_ble_eq_true rfl⟩
theorem EncodeLength.rlAtIxd (d : Byte) : EncodeLength.Statement (.rlAtIxd d) := ⟨Nat.le_of_ble_eq_true rfl, Nat.le_of_ble_eq_true rfl⟩
theorem EncodeLength.rlAtIyd (d : Byte) : EncodeLength.Statement (.rlAtIyd d) := ⟨Nat.le_of_ble_eq_true rfl, Nat.le_of_ble_eq_true rfl⟩
theorem EncodeLength.rrAtIxd (d : Byte) : EncodeLength.Statement (.rrAtIxd d) := ⟨Nat.le_of_ble_eq_true rfl, Nat.le_of_ble_eq_true rfl⟩
theorem EncodeLength.rrAtIyd (d : Byte) : EncodeLength.Statement (.rrAtIyd d) := ⟨Nat.le_of_ble_eq_true rfl, Nat.le_of_ble_eq_true rfl⟩
theorem EncodeLength.slaAtIxd (d : Byte) : EncodeLength.Statement (.slaAtIxd d) := ⟨Nat.le_of_ble_eq_true rfl, Nat.le_of_ble_eq_true rfl⟩
theorem EncodeLength.slaAtIyd (d : Byte) : EncodeLength.Statement (.slaAtIyd d) := ⟨Nat.le_of_ble_eq_true rfl, Nat.le_of_ble_eq_true rfl⟩
theorem EncodeLength.sraAtIxd (d : Byte) : EncodeLength.Statement (.sraAtIxd d) := ⟨Nat.le_of_ble_eq_true rfl, Nat.le_of_ble_eq_true rfl⟩
theorem EncodeLength.sraAtIyd (d : Byte) : EncodeLength.Statement (.sraAtIyd d) := ⟨Nat.le_of_ble_eq_true rfl, Nat.le_of_ble_eq_true rfl⟩
theorem EncodeLength.srlAtIxd (d : Byte) : EncodeLength.Statement (.srlAtIxd d) := ⟨Nat.le_of_ble_eq_true rfl, Nat.le_of_ble_eq_true rfl⟩
theorem EncodeLength.srlAtIyd (d : Byte) : EncodeLength.Statement (.srlAtIyd d) := ⟨Nat.le_of_ble_eq_true rfl, Nat.le_of_ble_eq_true rfl⟩
theorem EncodeLength.bitB (b : BitVec 3) : EncodeLength.Statement (.bitB b) := ⟨Nat.le_of_ble_eq_true rfl, Nat.le_of_ble_eq_true rfl⟩
theorem EncodeLength.bitC (b : BitVec 3) : EncodeLength.Statement (.bitC b) := ⟨Nat.le_of_ble_eq_true rfl, Nat.le_of_ble_eq_true rfl⟩
theorem EncodeLength.bitD (b : BitVec 3) : EncodeLength.Statement (.bitD b) := ⟨Nat.le_of_ble_eq_true rfl, Nat.le_of_ble_eq_true rfl⟩
theorem EncodeLength.bitE (b : BitVec 3) : EncodeLength.Statement (.bitE b) := ⟨Nat.le_of_ble_eq_true rfl, Nat.le_of_ble_eq_true rfl⟩
theorem EncodeLength.bitH (b : BitVec 3) : EncodeLength.Statement (.bitH b) := ⟨Nat.le_of_ble_eq_true rfl, Nat.le_of_ble_eq_true rfl⟩
theorem EncodeLength.bitL (b : BitVec 3) : EncodeLength.Statement (.bitL b) := ⟨Nat.le_of_ble_eq_true rfl, Nat.le_of_ble_eq_true rfl⟩
theorem EncodeLength.bitA (b : BitVec 3) : EncodeLength.Statement (.bitA b) := ⟨Nat.le_of_ble_eq_true rfl, Nat.le_of_ble_eq_true rfl⟩
theorem EncodeLength.bitAtHl (b : BitVec 3) : EncodeLength.Statement (.bitAtHl b) := ⟨Nat.le_of_ble_eq_true rfl, Nat.le_of_ble_eq_true rfl⟩
theorem EncodeLength.bitAtIxd (b : BitVec 3) (d : Byte) : EncodeLength.Statement (.bitAtIxd b d) := ⟨Nat.le_of_ble_eq_true rfl, Nat.le_of_ble_eq_true rfl⟩
theorem EncodeLength.bitAtIyd (b : BitVec 3) (d : Byte) : EncodeLength.Statement (.bitAtIyd b d) := ⟨Nat.le_of_ble_eq_true rfl, Nat.le_of_ble_eq_true rfl⟩
theorem EncodeLength.resB (b : BitVec 3) : EncodeLength.Statement (.resB b) := ⟨Nat.le_of_ble_eq_true rfl, Nat.le_of_ble_eq_true rfl⟩
theorem EncodeLength.resC (b : BitVec 3) : EncodeLength.Statement (.resC b) := ⟨Nat.le_of_ble_eq_true rfl, Nat.le_of_ble_eq_true rfl⟩
theorem EncodeLength.resD (b : BitVec 3) : EncodeLength.Statement (.resD b) := ⟨Nat.le_of_ble_eq_true rfl, Nat.le_of_ble_eq_true rfl⟩
theorem EncodeLength.resE (b : BitVec 3) : EncodeLength.Statement (.resE b) := ⟨Nat.le_of_ble_eq_true rfl, Nat.le_of_ble_eq_true rfl⟩
theorem EncodeLength.resH (b : BitVec 3) : EncodeLength.Statement (.resH b) := ⟨Nat.le_of_ble_eq_true rfl, Nat.le_of_ble_eq_true rfl⟩
theorem EncodeLength.resL (b : BitVec 3) : EncodeLength.Statement (.resL b) := ⟨Nat.le_of_ble_eq_true rfl, Nat.le_of_ble_eq_true rfl⟩
theorem EncodeLength.resA (b : BitVec 3) : EncodeLength.Statement (.resA b) := ⟨Nat.le_of_ble_eq_true rfl, Nat.le_of_ble_eq_true rfl⟩
theorem EncodeLength.resAtHl (b : BitVec 3) : EncodeLength.Statement (.resAtHl b) := ⟨Nat.le_of_ble_eq_true rfl, Nat.le_of_ble_eq_true rfl⟩
theorem EncodeLength.resAtIxd (b : BitVec 3) (d : Byte) : EncodeLength.Statement (.resAtIxd b d) := ⟨Nat.le_of_ble_eq_true rfl, Nat.le_of_ble_eq_true rfl⟩
theorem EncodeLength.resAtIyd (b : BitVec 3) (d : Byte) : EncodeLength.Statement (.resAtIyd b d) := ⟨Nat.le_of_ble_eq_true rfl, Nat.le_of_ble_eq_true rfl⟩
theorem EncodeLength.setB (b : BitVec 3) : EncodeLength.Statement (.setB b) := ⟨Nat.le_of_ble_eq_true rfl, Nat.le_of_ble_eq_true rfl⟩
theorem EncodeLength.setC (b : BitVec 3) : EncodeLength.Statement (.setC b) := ⟨Nat.le_of_ble_eq_true rfl, Nat.le_of_ble_eq_true rfl⟩
theorem EncodeLength.setD (b : BitVec 3) : EncodeLength.Statement (.setD b) := ⟨Nat.le_of_ble_eq_true rfl, Nat.le_of_ble_eq_true rfl⟩
theorem EncodeLength.setE (b : BitVec 3) : EncodeLength.Statement (.setE b) := ⟨Nat.le_of_ble_eq_true rfl, Nat.le_of_ble_eq_true rfl⟩
theorem EncodeLength.setH (b : BitVec 3) : EncodeLength.Statement (.setH b) := ⟨Nat.le_of_ble_eq_true rfl, Nat.le_of_ble_eq_true rfl⟩
theorem EncodeLength.setL (b : BitVec 3) : EncodeLength.Statement (.setL b) := ⟨Nat.le_of_ble_eq_true rfl, Nat.le_of_ble_eq_true rfl⟩
theorem EncodeLength.setA (b : BitVec 3) : EncodeLength.Statement (.setA b) := ⟨Nat.le_of_ble_eq_true rfl, Nat.le_of_ble_eq_true rfl⟩
theorem EncodeLength.setAtHl (b : BitVec 3) : EncodeLength.Statement (.setAtHl b) := ⟨Nat.le_of_ble_eq_true rfl, Nat.le_of_ble_eq_true rfl⟩
theorem EncodeLength.setAtIxd (b : BitVec 3) (d : Byte) : EncodeLength.Statement (.setAtIxd b d) := ⟨Nat.le_of_ble_eq_true rfl, Nat.le_of_ble_eq_true rfl⟩
theorem EncodeLength.setAtIyd (b : BitVec 3) (d : Byte) : EncodeLength.Statement (.setAtIyd b d) := ⟨Nat.le_of_ble_eq_true rfl, Nat.le_of_ble_eq_true rfl⟩
theorem EncodeLength.sbcHlPp (p : Pair) : EncodeLength.Statement (.sbcHlPp p) := ⟨Nat.le_of_ble_eq_true rfl, Nat.le_of_ble_eq_true rfl⟩
theorem EncodeLength.adcHlPp (p : Pair) : EncodeLength.Statement (.adcHlPp p) := ⟨Nat.le_of_ble_eq_true rfl, Nat.le_of_ble_eq_true rfl⟩
theorem EncodeLength.ldAtNnPp (nn : Word) (p : Pair) : EncodeLength.Statement (.ldAtNnPp nn p) := ⟨Nat.le_of_ble_eq_true rfl, Nat.le_of_ble_eq_true rfl⟩
theorem EncodeLength.ldPpAtNn (p : Pair) (nn : Word) : EncodeLength.Statement (.ldPpAtNn p nn) := ⟨Nat.le_of_ble_eq_true rfl, Nat.le_of_ble_eq_true rfl⟩
theorem EncodeLength.addIxPp (p : PairX) : EncodeLength.Statement (.addIxPp p) := ⟨Nat.le_of_ble_eq_true rfl, Nat.le_of_ble_eq_true rfl⟩
theorem EncodeLength.ldIxNn (nn : Word) : EncodeLength.Statement (.ldIxNn nn) := ⟨Nat.le_of_ble_eq_true rfl, Nat.le_of_ble_eq_true rfl⟩
theorem EncodeLength.ldAtNnIx (nn : Word) : EncodeLength.Statement (.ldAtNnIx nn) := ⟨Nat.le_of_ble_eq_true rfl, Nat.le_of_ble_eq_true rfl⟩
theorem EncodeLength.ldIxAtNn (nn : Word) : EncodeLength.Statement (.ldIxAtNn nn) := ⟨Nat.le_of_ble_eq_true rfl, Nat.le_of_ble_eq_true rfl⟩
theorem EncodeLength.incAtIxd (d : Byte) : EncodeLength.Statement (.incAtIxd d) := ⟨Nat.le_of_ble_eq_true rfl, Nat.le_of_ble_eq_true rfl⟩
theorem EncodeLength.decAtIxd (d : Byte) : EncodeLength.Statement (.decAtIxd d) := ⟨Nat.le_of_ble_eq_true rfl, Nat.le_of_ble_eq_true rfl⟩
theorem EncodeLength.ldAtIxdN (d : Byte) (n : Byte) : EncodeLength.Statement (.ldAtIxdN d n) := ⟨Nat.le_of_ble_eq_true rfl, Nat.le_of_ble_eq_true rfl⟩
theorem EncodeLength.ldBAtIxd (d : Byte) : EncodeLength.Statement (.ldBAtIxd d) := ⟨Nat.le_of_ble_eq_true rfl, Nat.le_of_ble_eq_true rfl⟩
theorem EncodeLength.ldAtIxdB (d : Byte) : EncodeLength.Statement (.ldAtIxdB d) := ⟨Nat.le_of_ble_eq_true rfl, Nat.le_of_ble_eq_true rfl⟩
theorem EncodeLength.ldCAtIxd (d : Byte) : EncodeLength.Statement (.ldCAtIxd d) := ⟨Nat.le_of_ble_eq_true rfl, Nat.le_of_ble_eq_true rfl⟩
theorem EncodeLength.ldAtIxdC (d : Byte) : EncodeLength.Statement (.ldAtIxdC d) := ⟨Nat.le_of_ble_eq_true rfl, Nat.le_of_ble_eq_true rfl⟩
theorem EncodeLength.ldDAtIxd (d : Byte) : EncodeLength.Statement (.ldDAtIxd d) := ⟨Nat.le_of_ble_eq_true rfl, Nat.le_of_ble_eq_true rfl⟩
theorem EncodeLength.ldAtIxdD (d : Byte) : EncodeLength.Statement (.ldAtIxdD d) := ⟨Nat.le_of_ble_eq_true rfl, Nat.le_of_ble_eq_true rfl⟩
theorem EncodeLength.ldEAtIxd (d : Byte) : EncodeLength.Statement (.ldEAtIxd d) := ⟨Nat.le_of_ble_eq_true rfl, Nat.le_of_ble_eq_true rfl⟩
theorem EncodeLength.ldAtIxdE (d : Byte) : EncodeLength.Statement (.ldAtIxdE d) := ⟨Nat.le_of_ble_eq_true rfl, Nat.le_of_ble_eq_true rfl⟩
theorem EncodeLength.ldHAtIxd (d : Byte) : EncodeLength.Statement (.ldHAtIxd d) := ⟨Nat.le_of_ble_eq_true rfl, Nat.le_of_ble_eq_true rfl⟩
theorem EncodeLength.ldAtIxdH (d : Byte) : EncodeLength.Statement (.ldAtIxdH d) := ⟨Nat.le_of_ble_eq_true rfl, Nat.le_of_ble_eq_true rfl⟩
theorem EncodeLength.ldLAtIxd (d : Byte) : EncodeLength.Statement (.ldLAtIxd d) := ⟨Nat.le_of_ble_eq_true rfl, Nat.le_of_ble_eq_true rfl⟩
theorem EncodeLength.ldAtIxdL (d : Byte) : EncodeLength.Statement (.ldAtIxdL d) := ⟨Nat.le_of_ble_eq_true rfl, Nat.le_of_ble_eq_true rfl⟩
theorem EncodeLength.ldAAtIxd (d : Byte) : EncodeLength.Statement (.ldAAtIxd d) := ⟨Nat.le_of_ble_eq_true rfl, Nat.le_of_ble_eq_true rfl⟩
theorem EncodeLength.ldAtIxdA (d : Byte) : EncodeLength.Statement (.ldAtIxdA d) := ⟨Nat.le_of_ble_eq_true rfl, Nat.le_of_ble_eq_true rfl⟩
theorem EncodeLength.addAAtIxd (d : Byte) : EncodeLength.Statement (.addAAtIxd d) := ⟨Nat.le_of_ble_eq_true rfl, Nat.le_of_ble_eq_true rfl⟩
theorem EncodeLength.adcAAtIxd (d : Byte) : EncodeLength.Statement (.adcAAtIxd d) := ⟨Nat.le_of_ble_eq_true rfl, Nat.le_of_ble_eq_true rfl⟩
theorem EncodeLength.subAtIxd (d : Byte) : EncodeLength.Statement (.subAtIxd d) := ⟨Nat.le_of_ble_eq_true rfl, Nat.le_of_ble_eq_true rfl⟩
theorem EncodeLength.sbcAAtIxd (d : Byte) : EncodeLength.Statement (.sbcAAtIxd d) := ⟨Nat.le_of_ble_eq_true rfl, Nat.le_of_ble_eq_true rfl⟩
theorem EncodeLength.andAtIxd (d : Byte) : EncodeLength.Statement (.andAtIxd d) := ⟨Nat.le_of_ble_eq_true rfl, Nat.le_of_ble_eq_true rfl⟩
theorem EncodeLength.xorAtIxd (d : Byte) : EncodeLength.Statement (.xorAtIxd d) := ⟨Nat.le_of_ble_eq_true rfl, Nat.le_of_ble_eq_true rfl⟩
theorem EncodeLength.orAtIxd (d : Byte) : EncodeLength.Statement (.orAtIxd d) := ⟨Nat.le_of_ble_eq_true rfl, Nat.le_of_ble_eq_true rfl⟩
theorem EncodeLength.cpAtIxd (d : Byte) : EncodeLength.Statement (.cpAtIxd d) := ⟨Nat.le_of_ble_eq_true rfl, Nat.le_of_ble_eq_true rfl⟩
theorem EncodeLength.addIyPp (p : PairX) : EncodeLength.Statement (.addIyPp p) := ⟨Nat.le_of_ble_eq_true rfl, Nat.le_of_ble_eq_true rfl⟩
theorem EncodeLength.ldIyNn (nn : Word) : EncodeLength.Statement (.ldIyNn nn) := ⟨Nat.le_of_ble_eq_true rfl, Nat.le_of_ble_eq_true rfl⟩
theorem EncodeLength.ldAtNnIy (nn : Word) : EncodeLength.Statement (.ldAtNnIy nn) := ⟨Nat.le_of_ble_eq_true rfl, Nat.le_of_ble_eq_true rfl⟩
theorem EncodeLength.ldIyAtNn (nn : Word) : EncodeLength.Statement (.ldIyAtNn nn) := ⟨Nat.le_of_ble_eq_true rfl, Nat.le_of_ble_eq_true rfl⟩
theorem EncodeLength.incAtIyd (d : Byte) : EncodeLength.Statement (.incAtIyd d) := ⟨Nat.le_of_ble_eq_true rfl, Nat.le_of_ble_eq_true rfl⟩
theorem EncodeLength.decAtIyd (d : Byte) : EncodeLength.Statement (.decAtIyd d) := ⟨Nat.le_of_ble_eq_true rfl, Nat.le_of_ble_eq_true rfl⟩
theorem EncodeLength.ldAtIydN (d : Byte) (n : Byte) : EncodeLength.Statement (.ldAtIydN d n) := ⟨Nat.le_of_ble_eq_true rfl, Nat.le_of_ble_eq_true rfl⟩
theorem EncodeLength.ldBAtIyd (d : Byte) : EncodeLength.Statement (.ldBAtIyd d) := ⟨Nat.le_of_ble_eq_true rfl, Nat.le_of_ble_eq_true rfl⟩
theorem EncodeLength.ldAtIydB (d : Byte) : EncodeLength.Statement (.ldAtIydB d) := ⟨Nat.le_of_ble_eq_true rfl, Nat.le_of_ble_eq_true rfl⟩
theorem EncodeLength.ldCAtIyd (d : Byte) : EncodeLength.Statement (.ldCAtIyd d) := ⟨Nat.le_of_ble_eq_true rfl, Nat.le_of_ble_eq_true rfl⟩
theorem EncodeLength.ldAtIydC (d : Byte) : EncodeLength.Statement (.ldAtIydC d) := ⟨Nat.le_of_ble_eq_true rfl, Nat.le_of_ble_eq_true rfl⟩
theorem EncodeLength.ldDAtIyd (d : Byte) : EncodeLength.Statement (.ldDAtIyd d) := ⟨Nat.le_of_ble_eq_true rfl, Nat.le_of_ble_eq_true rfl⟩
theorem EncodeLength.ldAtIydD (d : Byte) : EncodeLength.Statement (.ldAtIydD d) := ⟨Nat.le_of_ble_eq_true rfl, Nat.le_of_ble_eq_true rfl⟩
theorem EncodeLength.ldEAtIyd (d : Byte) : EncodeLength.Statement (.ldEAtIyd d) := ⟨Nat.le_of_ble_eq_true rfl, Nat.le_of_ble_eq_true rfl⟩
theorem EncodeLength.ldAtIydE (d : Byte) : EncodeLength.Statement (.ldAtIydE d) := ⟨Nat.le_of_ble_eq_true rfl, Nat.le_of_ble_eq_true rfl⟩
theorem EncodeLength.ldHAtIyd (d : Byte) : EncodeLength.Statement (.ldHAtIyd d) := ⟨Nat.le_of_ble_eq_true rfl, Nat.le_of_ble_eq_true rfl⟩
theorem EncodeLength.ldAtIydH (d : Byte) : EncodeLength.Statement (.ldAtIydH d) := ⟨Nat.le_of_ble_eq_true rfl, Nat.le_of_ble_eq_true rfl⟩
theorem EncodeLength.ldLAtIyd (d : Byte) : EncodeLength.Statement (.ldLAtIyd d) := ⟨Nat.le_of_ble_eq_true rfl, Nat.le_of_ble_eq_true rfl⟩
theorem EncodeLength.ldAtIydL (d : Byte) : EncodeLength.Statement (.ldAtIydL d) := ⟨Nat.le_of_ble_eq_true rfl, Nat.le_of_ble_eq_true rfl⟩
theorem EncodeLength.ldAAtIyd (d : Byte) : EncodeLength.Statement (.ldAAtIyd d) := ⟨Nat.le_of_ble_eq_true rfl, Nat.le_of_ble_eq_true rfl⟩
theorem EncodeLength.ldAtIydA (d : Byte) : EncodeLength.Statement (.ldAtIydA d) := ⟨Nat.le_of_ble_eq_true rfl, Nat.le_of_ble_eq_true rfl⟩
theorem EncodeLength.addAAtIyd (d : Byte) : EncodeLength.Statement (.addAAtIyd d) := ⟨Nat.le_of_ble_eq_true rfl, Nat.le_of_ble_eq_true rfl⟩
theorem EncodeLength.adcAAtIyd (d : Byte) : EncodeLength.Statement (.adcAAtIyd d) := ⟨Nat.le_of_ble_eq_true rfl, Nat.le_of_ble_eq_true rfl⟩
theorem EncodeLength.subAtIyd (d : Byte) : EncodeLength.Statement (.subAtIyd d) := ⟨Nat.le_of_ble_eq_true rfl, Nat.le_of_ble_eq_true rfl⟩
theorem EncodeLength.sbcAAtIyd (d : Byte) : EncodeLength.Statement (.sbcAAtIyd d) := ⟨Nat.le_of_ble_eq_true rfl, Nat.le_of_ble_eq_true rfl⟩
theorem EncodeLength.andAtIyd (d : Byte) : EncodeLength.Statement (.andAtIyd d) := ⟨Nat.le_of_ble_eq_true rfl, Nat.le_of_ble_eq_true rfl⟩
theorem EncodeLength.xorAtIyd (d : Byte) : EncodeLength.Statement (.xorAtIyd d) := ⟨Nat.le_of_ble_eq_true rfl, Nat.le_of_ble_eq_true rfl⟩
theorem EncodeLength.orAtIyd (d : Byte) : EncodeLength.Statement (.orAtIyd d) := ⟨Nat.le_of_ble_eq_true rfl, Nat.le_of_ble_eq_true rfl⟩
theorem EncodeLength.cpAtIyd (d : Byte) : EncodeLength.Statement (.cpAtIyd d) := ⟨Nat.le_of_ble_eq_true rfl, Nat.le_of_ble_eq_true rfl⟩
theorem EncodeLength.nop : EncodeLength.Statement .nop := ⟨Nat.le_of_ble_eq_true rfl, Nat.le_of_ble_eq_true rfl⟩
theorem EncodeLength.ldAtBcA : EncodeLength.Statement .ldAtBcA := ⟨Nat.le_of_ble_eq_true rfl, Nat.le_of_ble_eq_true rfl⟩
theorem EncodeLength.ldAtDeA : EncodeLength.Statement .ldAtDeA := ⟨Nat.le_of_ble_eq_true rfl, Nat.le_of_ble_eq_true rfl⟩
theorem EncodeLength.incB : EncodeLength.Statement .incB := ⟨Nat.le_of_ble_eq_true rfl, Nat.le_of_ble_eq_true rfl⟩
theorem EncodeLength.decB : EncodeLength.Statement .decB := ⟨Nat.le_of_ble_eq_true rfl, Nat.le_of_ble_eq_true rfl⟩
theorem EncodeLength.incC : EncodeLength.Statement .incC := ⟨Nat.le_of_ble_eq_true rfl, Nat.le_of_ble_eq_true rfl⟩
theorem EncodeLength.decC : EncodeLength.Statement .decC := ⟨Nat.le_of_ble_eq_true rfl, Nat.le_of_ble_eq_true rfl⟩
theorem EncodeLength.incD : EncodeLength.Statement .incD := ⟨Nat.le_of_ble_eq_true rfl, Nat.le_of_ble_eq_true rfl⟩
theorem EncodeLength.decD : EncodeLength.Statement .decD := ⟨Nat.le_of_ble_eq_true rfl, Nat.le_of_ble_eq_true rfl⟩
theorem EncodeLength.incE : EncodeLength.Statement .incE := ⟨Nat.le_of_ble_eq_true rfl, Nat.le_of_ble_eq_true rfl⟩
theorem EncodeLength.decE : EncodeLength.Statement .decE := ⟨Nat.le_of_ble_eq_true rfl, Nat.le_of_ble_eq_true rfl⟩
theorem EncodeLength.incH : EncodeLength.Statement .incH := ⟨Nat.le_of_ble_eq_true rfl, Nat.le_of_ble_eq_true rfl⟩
theorem EncodeLength.decH : EncodeLength.Statement .decH := ⟨Nat.le_of_ble_eq_true rfl, Nat.le_of_ble_eq_true rfl⟩
theorem EncodeLength.incL : EncodeLength.Statement .incL := ⟨Nat.le_of_ble_eq_true rfl, Nat.le_of_ble_eq_true rfl⟩
theorem EncodeLength.decL : EncodeLength.Statement .decL := ⟨Nat.le_of_ble_eq_true rfl, Nat.le_of_ble_eq_true rfl⟩
theorem EncodeLength.incA : EncodeLength.Statement .incA := ⟨Nat.le_of_ble_eq_true rfl, Nat.le_of_ble_eq_true rfl⟩
theorem EncodeLength.decA : EncodeLength.Statement .decA := ⟨Nat.le_of_ble_eq_true rfl, Nat.le_of_ble_eq_true rfl⟩
theorem EncodeLength.incAtHl : EncodeLength.Statement .incAtHl := ⟨Nat.le_of_ble_eq_true rfl, Nat.le_of_ble_eq_true rfl⟩
theorem EncodeLength.decAtHl : EncodeLength.Statement .decAtHl := ⟨Nat.le_of_ble_eq_true rfl, Nat.le_of_ble_eq_true rfl⟩
theorem EncodeLength.rlca : EncodeLength.Statement .rlca := ⟨Nat.le_of_ble_eq_true rfl, Nat.le_of_ble_eq_true rfl⟩
theorem EncodeLength.rrca : EncodeLength.Statement .rrca := ⟨Nat.le_of_ble_eq_true rfl, Nat.le_of_ble_eq_true rfl⟩
theorem EncodeLength.rla : EncodeLength.Statement .rla := ⟨Nat.le_of_ble_eq_true rfl, Nat.le_of_ble_eq_true rfl⟩
theorem EncodeLength.rra : EncodeLength.Statement .rra := ⟨Nat.le_of_ble_eq_true rfl, Nat.le_of_ble_eq_true rfl⟩
theorem EncodeLength.daa : EncodeLength.Statement .daa := ⟨Nat.le_of_ble_eq_true rfl, Nat.le_of_ble_eq_true rfl⟩
theorem EncodeLength.cpl : EncodeLength.Statement .cpl := ⟨Nat.le_of_ble_eq_true rfl, Nat.le_of_ble_eq_true rfl⟩
theorem EncodeLength.scf : EncodeLength.Statement .scf := ⟨Nat.le_of_ble_eq_true rfl, Nat.le_of_ble_eq_true rfl⟩
theorem EncodeLength.ccf : EncodeLength.Statement .ccf := ⟨Nat.le_of_ble_eq_true rfl, Nat.le_of_ble_eq_true rfl⟩
theorem EncodeLength.exAfAf : EncodeLength.Statement .exAfAf := ⟨Nat.le_of_ble_eq_true rfl, Nat.le_of_ble_eq_true rfl⟩
theorem EncodeLength.ldAAtBc : EncodeLength.Statement .ldAAtBc := ⟨Nat.le_of_ble_eq_true rfl, Nat.le_of_ble_eq_true rfl⟩
theorem EncodeLength.ldAAtDe : EncodeLength.Statement .ldAAtDe := ⟨Nat.le_of_ble_eq_true rfl, Nat.le_of_ble_eq_true rfl⟩
theorem EncodeLength.ldBB : EncodeLength.Statement .ldBB := ⟨Nat.le_of_ble_eq_true rfl, Nat.le_of_ble_eq_true rfl⟩
theorem EncodeLength.ldBC : EncodeLength.Statement .ldBC := ⟨Nat.le_of_ble_eq_true rfl, Nat.le_of_ble_eq_true rfl⟩
theorem EncodeLength.ldBD : EncodeLength.Statement .ldBD := ⟨Nat.le_of_ble_eq_true rfl, Nat.le_of_ble_eq_true rfl⟩
theorem EncodeLength.ldBE : EncodeLength.Statement .ldBE := ⟨Nat.le_of_ble_eq_true rfl, Nat.le_of_ble_eq_true rfl⟩
theorem EncodeLength.ldBH : EncodeLength.Statement .ldBH := ⟨Nat.le_of_ble_eq_true rfl, Nat.le_of_ble_eq_true rfl⟩
theorem EncodeLength.ldBL : EncodeLength.Statement .ldBL := ⟨Nat.le_of_ble_eq_true rfl, Nat.le_of_ble_eq_true rfl⟩
theorem EncodeLength.ldBA : EncodeLength.Statement .ldBA := ⟨Nat.le_of_ble_eq_true rfl, Nat.le_of_ble_eq_true rfl⟩
theorem EncodeLength.ldCB : EncodeLength.Statement .ldCB := ⟨Nat.le_of_ble_eq_true rfl, Nat.le_of_ble_eq_true rfl⟩
theorem EncodeLength.ldCC : EncodeLength.Statement .ldCC := ⟨Nat.le_of_ble_eq_true rfl, Nat.le_of_ble_eq_true rfl⟩
theorem EncodeLength.ldCD : EncodeLength.Statement .ldCD := ⟨Nat.le_of_ble_eq_true rfl, Nat.le_of_ble_eq_true rfl⟩
theorem EncodeLength.ldCE : EncodeLength.Statement .ldCE := ⟨Nat.le_of_ble_eq_true rfl, Nat.le_of_ble_eq_true rfl⟩
theorem EncodeLength.ldCH : EncodeLength.Statement .ldCH := ⟨Nat.le_of_ble_eq_true rfl, Nat.le_of_ble_eq_true rfl⟩
theorem EncodeLength.ldCL : EncodeLength.Statement .ldCL := ⟨Nat.le_of_ble_eq_true rfl, Nat.le_of_ble_eq_true rfl⟩
theorem EncodeLength.ldCA : EncodeLength.Statement .ldCA := ⟨Nat.le_of_ble_eq_true rfl, Nat.le_of_ble_eq_true rfl⟩
theorem EncodeLength.ldDB : EncodeLength.Statement .ldDB := ⟨Nat.le_of_ble_eq_true rfl, Nat.le_of_ble_eq_true rfl⟩
theorem EncodeLength.ldDC : EncodeLength.Statement .ldDC := ⟨Nat.le_of_ble_eq_true rfl, Nat.le_of_ble_eq_true rfl⟩
theorem EncodeLength.ldDD : EncodeLength.Statement .ldDD := ⟨Nat.le_of_ble_eq_true rfl, Nat.le_of_ble_eq_true rfl⟩
theorem EncodeLength.ldDE : EncodeLength.Statement .ldDE := ⟨Nat.le_of_ble_eq_true rfl, Nat.le_of_ble_eq_true rfl⟩
theorem EncodeLength.ldDH : EncodeLength.Statement .ldDH := ⟨Nat.le_of_ble_eq_true rfl, Nat.le_of_ble_eq_true rfl⟩
theorem EncodeLength.ldDL : EncodeLength.Statement .ldDL := ⟨Nat.le_of_ble_eq_true rfl, Nat.le_of_ble_eq_true rfl⟩
theorem EncodeLength.ldDA : EncodeLength.Statement .ldDA := ⟨Nat.le_of_ble_eq_true rfl, Nat.le_of_ble_eq_true rfl⟩
theorem EncodeLength.ldEB : EncodeLength.Statement .ldEB := ⟨Nat.le_of_ble_eq_true rfl, Nat.le_of_ble_eq_true rfl⟩
theorem EncodeLength.ldEC : EncodeLength.Statement .ldEC := ⟨Nat.le_of_ble_eq_true rfl, Nat.le_of_ble_eq_true rfl⟩
theorem EncodeLength.ldED : EncodeLength.Statement .ldED := ⟨Nat.le_of_ble_eq_true rfl, Nat.le_of_ble_eq_true rfl⟩
theorem EncodeLength.ldEE : EncodeLength.Statement .ldEE := ⟨Nat.le_of_ble_eq_true rfl, Nat.le_of_ble_eq_true rfl⟩
theorem EncodeLength.ldEH : EncodeLength.Statement .ldEH := ⟨Nat.le_of_ble_eq_true rfl, Nat.le_of_ble_eq_true rfl⟩
theorem EncodeLength.ldEL : EncodeLength.Statement .ldEL := ⟨Nat.le_of_ble_eq_true rfl, Nat.le_of_ble_eq_true rfl⟩
theorem EncodeLength.ldEA : EncodeLength.Statement .ldEA := ⟨Nat.le_of_ble_eq_true rfl, Nat.le_of_ble_eq_true rfl⟩
theorem EncodeLength.ldHB : EncodeLength.Statement .ldHB := ⟨Nat.le_of_ble_eq_true rfl, Nat.le_of_ble_eq_true rfl⟩
theorem EncodeLength.ldHC : EncodeLength.Statement .ldHC := ⟨Nat.le_of_ble_eq_true rfl, Nat.le_of_ble_eq_true rfl⟩
theorem EncodeLength.ldHD : EncodeLength.Statement .ldHD := ⟨Nat.le_of_ble_eq_true rfl, Nat.le_of_ble_eq_true rfl⟩
theorem EncodeLength.ldHE : EncodeLength.Statement .ldHE := ⟨Nat.le_of_ble_eq_true rfl, Nat.le_of_ble_eq_true rfl⟩
theorem EncodeLength.ldHH : EncodeLength.Statement .ldHH := ⟨Nat.le_of_ble_eq_true rfl, Nat.le_of_ble_eq_true rfl⟩
theorem EncodeLength.breakpoint64 : EncodeLength.Statement .breakpoint64 := ⟨Nat.le_of_ble_eq_true rfl, Nat.le_of_ble_eq_true rfl⟩
theorem EncodeLength.ldHL : EncodeLength.Statement .ldHL := ⟨Nat.le_of_ble_eq_true rfl, Nat.le_of_ble_eq_true rfl⟩
theorem EncodeLength.ldHA : EncodeLength.Statement .ldHA := ⟨Nat.le_of_ble_eq_true rfl, Nat.le_of_ble_eq_true rfl⟩
theorem EncodeLength.ldLB : EncodeLength.Statement .ldLB := ⟨Nat.le_of_ble_eq_true rfl, Nat.le_of_ble_eq_true rfl⟩
theorem EncodeLength.ldLC : EncodeLength.Statement .ldLC := ⟨Nat.le_of_ble_eq_true rfl, Nat.le_of_ble_eq_true rfl⟩
theorem EncodeLength.ldLD : EncodeLength.Statement .ldLD := ⟨Nat.le_of_ble_eq_true rfl, Nat.le_of_ble_eq_true rfl⟩
theorem EncodeLength.ldLE : EncodeLength.Statement .ldLE := ⟨Nat.le_of_ble_eq_true rfl, Nat.le_of_ble_eq_true rfl⟩
theorem EncodeLength.ldLH : EncodeLength.Statement .ldLH := ⟨Nat.le_of_ble_eq_true rfl, Nat.le_of_ble_eq_true rfl⟩
theorem EncodeLength.ldLL : EncodeLength.Statement .ldLL := ⟨Nat.le_of_ble_eq_true rfl, Nat.le_of_ble_eq_true rfl⟩
theorem EncodeLength.ldLA : EncodeLength.Statement .ldLA := ⟨Nat.le_of_ble_eq_true rfl, Nat.le_of_ble_eq_true rfl⟩
theorem EncodeLength.ldAB : EncodeLength.Statement .ldAB := ⟨Nat.le_of_ble_eq_true rfl, Nat.le_of_ble_eq_true rfl⟩
theorem EncodeLength.ldAC : EncodeLength.Statement .ldAC := ⟨Nat.le_of_ble_eq_true rfl, Nat.le_of_ble_eq_true rfl⟩
theorem EncodeLength.ldAD : EncodeLength.Statement .ldAD := ⟨Nat.le_of_ble_eq_true rfl, Nat.le_of_ble_eq_true rfl⟩
theorem EncodeLength.ldAE : EncodeLength.Statement .ldAE := ⟨Nat.le_of_ble_eq_true rfl, Nat.le_of_ble_eq_true rfl⟩
theorem EncodeLength.ldAH : EncodeLength.Statement .ldAH := ⟨Nat.le_of_ble_eq_true rfl, Nat.le_of_ble_eq_true rfl⟩
theorem EncodeLength.ldAL : EncodeLength.Statement .ldAL := ⟨Nat.le_of_ble_eq_true rfl, Nat.le_of_ble_eq_true rfl⟩
theorem EncodeLength.ldAA : EncodeLength.Statement .ldAA := ⟨Nat.le_of_ble_eq_true rfl, Nat.le_of_ble_eq_true rfl⟩
theorem EncodeLength.ldBAtHl : EncodeLength.Statement .ldBAtHl := ⟨Nat.le_of_ble_eq_true rfl, Nat.le_of_ble_eq_true rfl⟩
theorem EncodeLength.ldAtHlB : EncodeLength.Statement .ldAtHlB := ⟨Nat.le_of_ble_eq_true rfl, Nat.le_of_ble_eq_true rfl⟩
theorem EncodeLength.ldCAtHl : EncodeLength.Statement .ldCAtHl := ⟨Nat.le_of_ble_eq_true rfl, Nat.le_of_ble_eq_true rfl⟩
theorem EncodeLength.ldAtHlC : EncodeLength.Statement .ldAtHlC := ⟨Nat.le_of_ble_eq_true rfl, Nat.le_of_ble_eq_true rfl⟩
theorem EncodeLength.ldDAtHl : EncodeLength.Statement .ldDAtHl := ⟨Nat.le_of_ble_eq_true rfl, Nat.le_of_ble_eq_true rfl⟩
theorem EncodeLength.ldAtHlD : EncodeLength.Statement .ldAtHlD := ⟨Nat.le_of_ble_eq_true rfl, Nat.le_of_ble_eq_true rfl⟩
theorem EncodeLength.ldEAtHl : EncodeLength.Statement .ldEAtHl := ⟨Nat.le_of_ble_eq_true rfl, Nat.le_of_ble_eq_true rfl⟩
theorem EncodeLength.ldAtHlE : EncodeLength.Statement .ldAtHlE := ⟨Nat.le_of_ble_eq_true rfl, Nat.le_of_ble_eq_true rfl⟩
theorem EncodeLength.ldHAtHl : EncodeLength.Statement .ldHAtHl := ⟨Nat.le_of_ble_eq_true rfl, Nat.le_of_ble_eq_true rfl⟩
theorem EncodeLength.ldAtHlH : EncodeLength.Statement .ldAtHlH := ⟨Nat.le_of_ble_eq_true rfl, Nat.le_of_ble_eq_true rfl⟩
theorem EncodeLength.ldLAtHl : EncodeLength.Statement .ldLAtHl := ⟨Nat.le_of_ble_eq_true rfl, Nat.le_of_ble_eq_true rfl⟩
theorem EncodeLength.ldAtHlL : EncodeLength.Statement .ldAtHlL := ⟨Nat.le_of_ble_eq_true rfl, Nat.le_of_ble_eq_true rfl⟩
theorem EncodeLength.ldAAtHl : EncodeLength.Statement .ldAAtHl := ⟨Nat.le_of_ble_eq_true rfl, Nat.le_of_ble_eq_true rfl⟩
theorem EncodeLength.ldAtHlA : EncodeLength.Statement .ldAtHlA := ⟨Nat.le_of_ble_eq_true rfl, Nat.le_of_ble_eq_true rfl⟩
theorem EncodeLength.halt : EncodeLength.Statement .halt := ⟨Nat.le_of_ble_eq_true rfl, Nat.le_of_ble_eq_true rfl⟩
theorem EncodeLength.addAB : EncodeLength.Statement .addAB := ⟨Nat.le_of_ble_eq_true rfl, Nat.le_of_ble_eq_true rfl⟩
theorem EncodeLength.addAC : EncodeLength.Statement .addAC := ⟨Nat.le_of_ble_eq_true rfl, Nat.le_of_ble_eq_true rfl⟩
theorem EncodeLength.addAD : EncodeLength.Statement .addAD := ⟨Nat.le_of_ble_eq_true rfl, Nat.le_of_ble_eq_true rfl⟩
theorem EncodeLength.addAE : EncodeLength.Statement .addAE := ⟨Nat.le_of_ble_eq_true rfl, Nat.le_of_ble_eq_true rfl⟩
theorem EncodeLength.addAH : EncodeLength.Statement .addAH := ⟨Nat.le_of_ble_eq_true rfl, Nat.le_of_ble_eq_true rfl⟩
theorem EncodeLength.addAL : EncodeLength.Statement .addAL := ⟨Nat.le_of_ble_eq_true rfl, Nat.le_of_ble_eq_true rfl⟩
theorem EncodeLength.addAA : EncodeLength.Statement .addAA := ⟨Nat.le_of_ble_eq_true rfl, Nat.le_of_ble_eq_true rfl⟩
theorem EncodeLength.addAAtHl : EncodeLength.Statement .addAAtHl := ⟨Nat.le_of_ble_eq_true rfl, Nat.le_of_ble_eq_true rfl⟩
theorem EncodeLength.adcAB : EncodeLength.Statement .adcAB := ⟨Nat.le_of_ble_eq_true rfl, Nat.le_of_ble_eq_true rfl⟩
theorem EncodeLength.adcAC : EncodeLength.Statement .adcAC := ⟨Nat.le_of_ble_eq_true rfl, Nat.le_of_ble_eq_true rfl⟩
theorem EncodeLength.adcAD : EncodeLength.Statement .adcAD := ⟨Nat.le_of_ble_eq_true rfl, Nat.le_of_ble_eq_true rfl⟩
theorem EncodeLength.adcAE : EncodeLength.Statement .adcAE := ⟨Nat.le_of_ble_eq_true rfl, Nat.le_of_ble_eq_true rfl⟩
theorem EncodeLength.adcAH : EncodeLength.Statement .adcAH := ⟨Nat.le_of_ble_eq_true rfl, Nat.le_of_ble_eq_true rfl⟩
theorem EncodeLength.adcAL : EncodeLength.Statement .adcAL := ⟨Nat.le_of_ble_eq_true rfl, Nat.le_of_ble_eq_true rfl⟩
theorem EncodeLength.adcAA : EncodeLength.Statement .adcAA := ⟨Nat.le_of_ble_eq_true rfl, Nat.le_of_ble_eq_true rfl⟩
theorem EncodeLength.adcAAtHl : EncodeLength.Statement .adcAAtHl := ⟨Nat.le_of_ble_eq_true rfl, Nat.le_of_ble_eq_true rfl⟩
theorem EncodeLength.subB : EncodeLength.Statement .subB := ⟨Nat.le_of_ble_eq_true rfl, Nat.le_of_ble_eq_true rfl⟩
theorem EncodeLength.subC : EncodeLength.Statement .subC := ⟨Nat.le_of_ble_eq_true rfl, Nat.le_of_ble_eq_true rfl⟩
theorem EncodeLength.subD : EncodeLength.Statement .subD := ⟨Nat.le_of_ble_eq_true rfl, Nat.le_of_ble_eq_true rfl⟩
theorem EncodeLength.subE : EncodeLength.Statement .subE := ⟨Nat.le_of_ble_eq_true rfl, Nat.le_of_ble_eq_true rfl⟩
theorem EncodeLength.subH : EncodeLength.Statement .subH := ⟨Nat.le_of_ble_eq_true rfl, Nat.le_of_ble_eq_true rfl⟩
theorem EncodeLength.subL : EncodeLength.Statement .subL := ⟨Nat.le_of_ble_eq_true rfl, Nat.le_of_ble_eq_true rfl⟩
theorem EncodeLength.subA : EncodeLength.Statement .subA := ⟨Nat.le_of_ble_eq_true rfl, Nat.le_of_ble_eq_true rfl⟩
theorem EncodeLength.subAtHl : EncodeLength.Statement .subAtHl := ⟨Nat.le_of_ble_eq_true rfl, Nat.le_of_ble_eq_true rfl⟩
theorem EncodeLength.sbcAB : EncodeLength.Statement .sbcAB := ⟨Nat.le_of_ble_eq_true rfl, Nat.le_of_ble_eq_true rfl⟩
theorem EncodeLength.sbcAC : EncodeLength.Statement .sbcAC := ⟨Nat.le_of_ble_eq_true rfl, Nat.le_of_ble_eq_true rfl⟩
theorem EncodeLength.sbcAD : EncodeLength.Statement .sbcAD := ⟨Nat.le_of_ble_eq_true rfl, Nat.le_of_ble_eq_true rfl⟩
theorem EncodeLength.sbcAE : EncodeLength.Statement .sbcAE := ⟨Nat.le_of_ble_eq_true rfl, Nat.le_of_ble_eq_true rfl⟩
theorem EncodeLength.sbcAH : EncodeLength.Statement .sbcAH := ⟨Nat.le_of_ble_eq_true rfl, Nat.le_of_ble_eq_true rfl⟩
theorem EncodeLength.sbcAL : EncodeLength.Statement .sbcAL := ⟨Nat.le_of_ble_eq_true rfl, Nat.le_of_ble_eq_true rfl⟩
theorem EncodeLength.sbcAA : EncodeLength.Statement .sbcAA := ⟨Nat.le_of_ble_eq_true rfl, Nat.le_of_ble_eq_true rfl⟩
theorem EncodeLength.sbcAAtHl : EncodeLength.Statement .sbcAAtHl := ⟨Nat.le_of_ble_eq_true rfl, Nat.le_of_ble_eq_true rfl⟩
theorem EncodeLength.andB : EncodeLength.Statement .andB := ⟨Nat.le_of_ble_eq_true rfl, Nat.le_of_ble_eq_true rfl⟩
theorem EncodeLength.andC : EncodeLength.Statement .andC := ⟨Nat.le_of_ble_eq_true rfl, Nat.le_of_ble_eq_true rfl⟩
theorem EncodeLength.andD : EncodeLength.Statement .andD := ⟨Nat.le_of_ble_eq_true rfl, Nat.le_of_ble_eq_true rfl⟩
theorem EncodeLength.andE : EncodeLength.Statement .andE := ⟨Nat.le_of_ble_eq_true rfl, Nat.le_of_ble_eq_true rfl⟩
theorem EncodeLength.andH : EncodeLength.Statement .andH := ⟨Nat.le_of_ble_eq_true rfl, Nat.le_of_ble_eq_true rfl⟩
theorem EncodeLength.andL : EncodeLength.Statement .andL := ⟨Nat.le_of_ble_eq_true rfl, Nat.le_of_ble_eq_true rfl⟩
theorem EncodeLength.andA : EncodeLength.Statement .andA := ⟨Nat.le_of_ble_eq_true rfl, Nat.le_of_ble_eq_true rfl⟩
theorem EncodeLength.andAtHl : EncodeLength.Statement .andAtHl := ⟨Nat.le_of_ble_eq_true rfl, Nat.le_of_ble_eq_true rfl⟩
theorem EncodeLength.xorB : EncodeLength.Statement .xorB := ⟨Nat.le_of_ble_eq_true rfl, Nat.le_of_ble_eq_true rfl⟩
theorem EncodeLength.xorC : EncodeLength.Statement .xorC := ⟨Nat.le_of_ble_eq_true rfl, Nat.le_of_ble_eq_true rfl⟩
theorem EncodeLength.xorD : EncodeLength.Statement .xorD := ⟨Nat.le_of_ble_eq_true rfl, Nat.le_of_ble_eq_true rfl⟩
theorem EncodeLength.xorE : EncodeLength.Statement .xorE := ⟨Nat.le_of_ble_eq_true rfl, Nat.le_of_ble_eq_true rfl⟩
theorem EncodeLength.xorH : EncodeLength.Statement .xorH := ⟨Nat.le_of_ble_eq_true rfl, Nat.le_of_ble_eq_true rfl⟩
theorem EncodeLength.xorL : EncodeLength.Statement .xorL := ⟨Nat.le_of_ble_eq_true rfl, Nat.le_of_ble_eq_true rfl⟩
theorem EncodeLength.xorA : EncodeLength.Statement .xorA := ⟨Nat.le_of_ble_eq_true rfl, Nat.le_of_ble_eq_true rfl⟩
theorem EncodeLength.xorAtHl : EncodeLength.Statement .xorAtHl := ⟨Nat.le_of_ble_eq_true rfl, Nat.le_of_ble_eq_true rfl⟩
theorem EncodeLength.orB : EncodeLength.Statement .orB := ⟨Nat.le_of_ble_eq_true rfl, Nat.le_of_ble_eq_true rfl⟩
theorem EncodeLength.orC : EncodeLength.Statement .orC := ⟨Nat.le_of_ble_eq_true rfl, Nat.le_of_ble_eq_true rfl⟩
theorem EncodeLength.orD : EncodeLength.Statement .orD := ⟨Nat.le_of_ble_eq_true rfl, Nat.le_of_ble_eq_true rfl⟩
theorem EncodeLength.orE : EncodeLength.Statement .orE := ⟨Nat.le_of_ble_eq_true rfl, Nat.le_of_ble_eq_true rfl⟩
theorem EncodeLength.orH : EncodeLength.Statement .orH := ⟨Nat.le_of_ble_eq_true rfl, Nat.le_of_ble_eq_true rfl⟩
theorem EncodeLength.orL : EncodeLength.Statement .orL := ⟨Nat.le_of_ble_eq_true rfl, Nat.le_of_ble_eq_true rfl⟩
theorem EncodeLength.orA : EncodeLength.Statement .orA := ⟨Nat.le_of_ble_eq_true rfl, Nat.le_of_ble_eq_true rfl⟩
theorem EncodeLength.orAtHl : EncodeLength.Statement .orAtHl := ⟨Nat.le_of_ble_eq_true rfl, Nat.le_of_ble_eq_true rfl⟩
theorem EncodeLength.cpB : EncodeLength.Statement .cpB := ⟨Nat.le_of_ble_eq_true rfl, Nat.le_of_ble_eq_true rfl⟩
theorem EncodeLength.cpC : EncodeLength.Statement .cpC := ⟨Nat.le_of_ble_eq_true rfl, Nat.le_of_ble_eq_true rfl⟩
theorem EncodeLength.cpD : EncodeLength.Statement .cpD := ⟨Nat.le_of_ble_eq_true rfl, Nat.le_of_ble_eq_true rfl⟩
theorem EncodeLength.cpE : EncodeLength.Statement .cpE := ⟨Nat.le_of_ble_eq_true rfl, Nat.le_of_ble_eq_true rfl⟩
theorem EncodeLength.cpH : EncodeLength.Statement .cpH := ⟨Nat.le_of_ble_eq_true rfl, Nat.le_of_ble_eq_true rfl⟩
theorem EncodeLength.cpL : EncodeLength.Statement .cpL := ⟨Nat.le_of_ble_eq_true rfl, Nat.le_of_ble_eq_true rfl⟩
theorem EncodeLength.cpA : EncodeLength.Statement .cpA := ⟨Nat.le_of_ble_eq_true rfl, Nat.le_of_ble_eq_true rfl⟩
theorem EncodeLength.cpAtHl : EncodeLength.Statement .cpAtHl := ⟨Nat.le_of_ble_eq_true rfl, Nat.le_of_ble_eq_true rfl⟩
theorem EncodeLength.ret : EncodeLength.Statement .ret := ⟨Nat.le_of_ble_eq_true rfl, Nat.le_of_ble_eq_true rfl⟩
theorem EncodeLength.exx : EncodeLength.Statement .exx := ⟨Nat.le_of_ble_eq_true rfl, Nat.le_of_ble_eq_true rfl⟩
theorem EncodeLength.exAtSpHl : EncodeLength.Statement .exAtSpHl := ⟨Nat.le_of_ble_eq_true rfl, Nat.le_of_ble_eq_true rfl⟩
theorem EncodeLength.jpHl : EncodeLength.Statement .jpHl := ⟨Nat.le_of_ble_eq_true rfl, Nat.le_of_ble_eq_true rfl⟩
theorem EncodeLength.exDeHl : EncodeLength.Statement .exDeHl := ⟨Nat.le_of_ble_eq_true rfl, Nat.le_of_ble_eq_true rfl⟩
theorem EncodeLength.di : EncodeLength.Statement .di := ⟨Nat.le_of_ble_eq_true rfl, Nat.le_of_ble_eq_true rfl⟩
theorem EncodeLength.ldSpHl : EncodeLength.Statement .ldSpHl := ⟨Nat.le_of_ble_eq_true rfl, Nat.le_of_ble_eq_true rfl⟩
theorem EncodeLength.ei : EncodeLength.Statement .ei := ⟨Nat.le_of_ble_eq_true rfl, Nat.le_of_ble_eq_true rfl⟩
theorem EncodeLength.rlcB : EncodeLength.Statement .rlcB := ⟨Nat.le_of_ble_eq_true rfl, Nat.le_of_ble_eq_true rfl⟩
theorem EncodeLength.rlcC : EncodeLength.Statement .rlcC := ⟨Nat.le_of_ble_eq_true rfl, Nat.le_of_ble_eq_true rfl⟩
theorem EncodeLength.rlcD : EncodeLength.Statement .rlcD := ⟨Nat.le_of_ble_eq_true rfl, Nat.le_of_ble_eq_true rfl⟩
theorem EncodeLength.rlcE : EncodeLength.Statement .rlcE := ⟨Nat.le_of_ble_eq_true rfl, Nat.le_of_ble_eq_true rfl⟩
theorem EncodeLength.rlcH : EncodeLength.Statement .rlcH := ⟨Nat.le_of_ble_eq_true rfl, Nat.le_of_ble_eq_true rfl⟩
theorem EncodeLength.rlcL : EncodeLength.Statement .rlcL := ⟨Nat.le_of_ble_eq_true rfl, Nat.le_of_ble_eq_true rfl⟩
theorem EncodeLength.rlcA : EncodeLength.Statement .rlcA := ⟨Nat.le_of_ble_eq_true rfl, Nat.le_of_ble_eq_true rfl⟩
theorem EncodeLength.rlcAtHl : EncodeLength.Statement .rlcAtHl := ⟨Nat.le_of_ble_eq_true rfl, Nat.le_of_ble_eq_true rfl⟩
theorem EncodeLength.rrcB : EncodeLength.Statement .rrcB := ⟨Nat.le_of_ble_eq_true rfl, Nat.le_of_ble_eq_true rfl⟩
theorem EncodeLength.rrcC : EncodeLength.Statement .rrcC := ⟨Nat.le_of_ble_eq_true rfl, Nat.le_of_ble_eq_true rfl⟩
theorem EncodeLength.rrcD : EncodeLength.Statement .rrcD := ⟨Nat.le_of_ble_eq_true rfl, Nat.le_of_ble_eq_true rfl⟩
theorem EncodeLength.rrcE : EncodeLength.Statement .rrcE := ⟨Nat.le_of_ble_eq_true rfl, Nat.le_of_ble_eq_true rfl⟩
theorem EncodeLength.rrcH : EncodeLength.Statement .rrcH := ⟨Nat.le_of_ble_eq_true rfl, Nat.le_of_ble_eq_true rfl⟩
theorem EncodeLength.rrcL : EncodeLength.Statement .rrcL := ⟨Nat.le_of_ble_eq_true rfl, Nat.le_of_ble_eq_true rfl⟩
theorem EncodeLength.rrcA : EncodeLength.Statement .rrcA := ⟨Nat.le_of_ble_eq_true rfl, Nat.le_of_ble_eq_true rfl⟩
theorem EncodeLength.rrcAtHl : EncodeLength.Statement .rrcAtHl := ⟨Nat.le_of_ble_eq_true rfl, Nat.le_of_ble_eq_true rfl⟩
theorem EncodeLength.rlB : EncodeLength.Statement .rlB := ⟨Nat.le_of_ble_eq_true rfl, Nat.le_of_ble_eq_true rfl⟩
theorem EncodeLength.rlC : EncodeLength.Statement .rlC := ⟨Nat.le_of_ble_eq_true rfl, Nat.le_of_ble_eq_true rfl⟩
theorem EncodeLength.rlD : EncodeLength.Statement .rlD := ⟨Nat.le_of_ble_eq_true rfl, Nat.le_of_ble_eq_true rfl⟩
theorem EncodeLength.rlE : EncodeLength.Statement .rlE := ⟨Nat.le_of_ble_eq_true rfl, Nat.le_of_ble_eq_true rfl⟩
theorem EncodeLength.rlH : EncodeLength.Statement .rlH := ⟨Nat.le_of_ble_eq_true rfl, Nat.le_of_ble_eq_true rfl⟩
theorem EncodeLength.rlL : EncodeLength.Statement .rlL := ⟨Nat.le_of_ble_eq_true rfl, Nat.le_of_ble_eq_true rfl⟩
theorem EncodeLength.rlA : EncodeLength.Statement .rlA := ⟨Nat.le_of_ble_eq_true rfl, Nat.le_of_ble_eq_true rfl⟩
theorem EncodeLength.rlAtHl : EncodeLength.Statement .rlAtHl := ⟨Nat.le_of_ble_eq_true rfl, Nat.le_of_ble_eq_true rfl⟩
theorem EncodeLength.rrB : EncodeLength.Statement .rrB := ⟨Nat.le_of_ble_eq_true rfl, Nat.le_of_ble_eq_true rfl⟩
theorem EncodeLength.rrC : EncodeLength.Statement .rrC := ⟨Nat.le_of_ble_eq_true rfl, Nat.le_of_ble_eq_true rfl⟩
theorem EncodeLength.rrD : EncodeLength.Statement .rrD := ⟨Nat.le_of_ble_eq_true rfl, Nat.le_of_ble_eq_true rfl⟩
theorem EncodeLength.rrE : EncodeLength.Statement .rrE := ⟨Nat.le_of_ble_eq_true rfl, Nat.le_of_ble_eq_true rfl⟩
theorem EncodeLength.rrH : EncodeLength.Statement .rrH := ⟨Nat.le_of_ble_eq_true rfl, Nat.le_of_ble_eq_true rfl⟩
theorem EncodeLength.rrL : EncodeLength.Statement .rrL := ⟨Nat.le_of_ble_eq_true rfl, Nat.le_of_ble_eq_true rfl⟩
theorem EncodeLength.rrA : EncodeLength.Statement .rrA := ⟨Nat.le_of_ble_eq_true rfl, Nat.le_of_ble_eq_true rfl⟩
theorem EncodeLength.rrAtHl : EncodeLength.Statement .rrAtHl := ⟨Nat.le_of_ble_eq_true rfl, Nat.le_of_ble_eq_true rfl⟩
theorem EncodeLength.slaB : EncodeLength.Statement .slaB := ⟨Nat.le_of_ble_eq_true rfl, Nat.le_of_ble_eq_true rfl⟩
theorem EncodeLength.slaC : EncodeLength.Statement .slaC := ⟨Nat.le_of_ble_eq_true rfl, Nat.le_of_ble_eq_true rfl⟩
theorem EncodeLength.slaD : EncodeLength.Statement .slaD := ⟨Nat.le_of_ble_eq_true rfl, Nat.le_of_ble_eq_true rfl⟩
theorem EncodeLength.slaE : EncodeLength.Statement .slaE := ⟨Nat.le_of_ble_eq_true rfl, Nat.le_of_ble_eq_true rfl⟩
theorem EncodeLength.slaH : EncodeLength.Statement .slaH := ⟨Nat.le_of_ble_eq_true rfl, Nat.le_of_ble_eq_true rfl⟩
theorem EncodeLength.slaL : EncodeLength.Statement .slaL := ⟨Nat.le_of_ble_eq_true rfl, Nat.le_of_ble_eq_true rfl⟩
theorem EncodeLength.slaA : EncodeLength.Statement .slaA := ⟨Nat.le_of_ble_eq_true rfl, Nat.le_of_ble_eq_true rfl⟩
theorem EncodeLength.slaAtHl : EncodeLength.Statement .slaAtHl := ⟨Nat.le_of_ble_eq_true rfl, Nat.le_of_ble_eq_true rfl⟩
theorem EncodeLength.sraB : EncodeLength.Statement .sraB := ⟨Nat.le_of_ble_eq_true rfl, Nat.le_of_ble_eq_true rfl⟩
theorem EncodeLength.sraC : EncodeLength.Statement .sraC := ⟨Nat.le_of_ble_eq_true rfl, Nat.le_of_ble_eq_true rfl⟩
theorem EncodeLength.sraD : EncodeLength.Statement .sraD := ⟨Nat.le_of_ble_eq_true rfl, Nat.le_of_ble_eq_true rfl⟩
theorem EncodeLength.sraE : EncodeLength.Statement .sraE := ⟨Nat.le_of_ble_eq_true rfl, Nat.le_of_ble_eq_true rfl⟩
theorem EncodeLength.sraH : EncodeLength.Statement .sraH := ⟨Nat.le_of_ble_eq_true rfl, Nat.le_of_ble_eq_true rfl⟩
theorem EncodeLength.sraL : EncodeLength.Statement .sraL := ⟨Nat.le_of_ble_eq_true rfl, Nat.le_of_ble_eq_true rfl⟩
theorem EncodeLength.sraA : EncodeLength.Statement .sraA := ⟨Nat.le_of_ble_eq_true rfl, Nat.le_of_ble_eq_true rfl⟩
theorem EncodeLength.sraAtHl : EncodeLength.Statement .sraAtHl := ⟨Nat.le_of_ble_eq_true rfl, Nat.le_of_ble_eq_true rfl⟩
theorem EncodeLength.srlB : EncodeLength.Statement .srlB := ⟨Nat.le_of_ble_eq_true rfl, Nat.le_of_ble_eq_true rfl⟩
theorem EncodeLength.srlC : EncodeLength.Statement .srlC := ⟨Nat.le_of_ble_eq_true rfl, Nat.le_of_ble_eq_true rfl⟩
theorem EncodeLength.srlD : EncodeLength.Statement .srlD := ⟨Nat.le_of_ble_eq_true rfl, Nat.le_of_ble_eq_true rfl⟩
theorem EncodeLength.srlE : EncodeLength.Statement .srlE := ⟨Nat.le_of_ble_eq_true rfl, Nat.le_of_ble_eq_true rfl⟩
theorem EncodeLength.srlH : EncodeLength.Statement .srlH := ⟨Nat.le_of_ble_eq_true rfl, Nat.le_of_ble_eq_true rfl⟩
theorem EncodeLength.srlL : EncodeLength.Statement .srlL := ⟨Nat.le_of_ble_eq_true rfl, Nat.le_of_ble_eq_true rfl⟩
theorem EncodeLength.srlA : EncodeLength.Statement .srlA := ⟨Nat.le_of_ble_eq_true rfl, Nat.le_of_ble_eq_true rfl⟩
theorem EncodeLength.srlAtHl : EncodeLength.Statement .srlAtHl := ⟨Nat.le_of_ble_eq_true rfl, Nat.le_of_ble_eq_true rfl⟩
theorem EncodeLength.trap : EncodeLength.Statement .trap := ⟨Nat.le_of_ble_eq_true rfl, Nat.le_of_ble_eq_true rfl⟩
theorem EncodeLength.inBPortC : EncodeLength.Statement .inBPortC := ⟨Nat.le_of_ble_eq_true rfl, Nat.le_of_ble_eq_true rfl⟩
theorem EncodeLength.outPortCB : EncodeLength.Statement .outPortCB := ⟨Nat.le_of_ble_eq_true rfl, Nat.le_of_ble_eq_true rfl⟩
theorem EncodeLength.inCPortC : EncodeLength.Statement .inCPortC := ⟨Nat.le_of_ble_eq_true rfl, Nat.le_of_ble_eq_true rfl⟩
theorem EncodeLength.outPortCC : EncodeLength.Statement .outPortCC := ⟨Nat.le_of_ble_eq_true rfl, Nat.le_of_ble_eq_true rfl⟩
theorem EncodeLength.inDPortC : EncodeLength.Statement .inDPortC := ⟨Nat.le_of_ble_eq_true rfl, Nat.le_of_ble_eq_true rfl⟩
theorem EncodeLength.outPortCD : EncodeLength.Statement .outPortCD := ⟨Nat.le_of_ble_eq_true rfl, Nat.le_of_ble_eq_true rfl⟩
theorem EncodeLength.inEPortC : EncodeLength.Statement .inEPortC := ⟨Nat.le_of_ble_eq_true rfl, Nat.le_of_ble_eq_true rfl⟩
theorem EncodeLength.outPortCE : EncodeLength.Statement .outPortCE := ⟨Nat.le_of_ble_eq_true rfl, Nat.le_of_ble_eq_true rfl⟩
theorem EncodeLength.inHPortC : EncodeLength.Statement .inHPortC := ⟨Nat.le_of_ble_eq_true rfl, Nat.le_of_ble_eq_true rfl⟩
theorem EncodeLength.outPortCH : EncodeLength.Statement .outPortCH := ⟨Nat.le_of_ble_eq_true rfl, Nat.le_of_ble_eq_true rfl⟩
theorem EncodeLength.inLPortC : EncodeLength.Statement .inLPortC := ⟨Nat.le_of_ble_eq_true rfl, Nat.le_of_ble_eq_true rfl⟩
theorem EncodeLength.outPortCL : EncodeLength.Statement .outPortCL := ⟨Nat.le_of_ble_eq_true rfl, Nat.le_of_ble_eq_true rfl⟩
theorem EncodeLength.inAPortC : EncodeLength.Statement .inAPortC := ⟨Nat.le_of_ble_eq_true rfl, Nat.le_of_ble_eq_true rfl⟩
theorem EncodeLength.outPortCA : EncodeLength.Statement .outPortCA := ⟨Nat.le_of_ble_eq_true rfl, Nat.le_of_ble_eq_true rfl⟩
theorem EncodeLength.neg : EncodeLength.Statement .neg := ⟨Nat.le_of_ble_eq_true rfl, Nat.le_of_ble_eq_true rfl⟩
theorem EncodeLength.retn : EncodeLength.Statement .retn := ⟨Nat.le_of_ble_eq_true rfl, Nat.le_of_ble_eq_true rfl⟩
theorem EncodeLength.im0 : EncodeLength.Statement .im0 := ⟨Nat.le_of_ble_eq_true rfl, Nat.le_of_ble_eq_true rfl⟩
theorem EncodeLength.im1 : EncodeLength.Statement .im1 := ⟨Nat.le_of_ble_eq_true rfl, Nat.le_of_ble_eq_true rfl⟩
theorem EncodeLength.im2 : EncodeLength.Statement .im2 := ⟨Nat.le_of_ble_eq_true rfl, Nat.le_of_ble_eq_true rfl⟩
theorem EncodeLength.ldIA : EncodeLength.Statement .ldIA := ⟨Nat.le_of_ble_eq_true rfl, Nat.le_of_ble_eq_true rfl⟩
theorem EncodeLength.ldAI : EncodeLength.Statement .ldAI := ⟨Nat.le_of_ble_eq_true rfl, Nat.le_of_ble_eq_true rfl⟩
theorem EncodeLength.reti : EncodeLength.Statement .reti := ⟨Nat.le_of_ble_eq_true rfl, Nat.le_of_ble_eq_true rfl⟩
theorem EncodeLength.rrd : EncodeLength.Statement .rrd := ⟨Nat.le_of_ble_eq_true rfl, Nat.le_of_ble_eq_true rfl⟩
theorem EncodeLength.rld : EncodeLength.Statement .rld := ⟨Nat.le_of_ble_eq_true rfl, Nat.le_of_ble_eq_true rfl⟩
theorem EncodeLength.ldi : EncodeLength.Statement .ldi := ⟨Nat.le_of_ble_eq_true rfl, Nat.le_of_ble_eq_true rfl⟩
theorem EncodeLength.cpi : EncodeLength.Statement .cpi := ⟨Nat.le_of_ble_eq_true rfl, Nat.le_of_ble_eq_true rfl⟩
theorem EncodeLength.ini : EncodeLength.Statement .ini := ⟨Nat.le_of_ble_eq_true rfl, Nat.le_of_ble_eq_true rfl⟩
theorem EncodeLength.outi : EncodeLength.Statement .outi := ⟨Nat.le_of_ble_eq_true rfl, Nat.le_of_ble_eq_true rfl⟩
theorem EncodeLength.ldd : EncodeLength.Statement .ldd := ⟨Nat.le_of_ble_eq_true rfl, Nat.le_of_ble_eq_true rfl⟩
theorem EncodeLength.cpd : EncodeLength.Statement .cpd := ⟨Nat.le_of_ble_eq_true rfl, Nat.le_of_ble_eq_true rfl⟩
theorem EncodeLength.ind : EncodeLength.Statement .ind := ⟨Nat.le_of_ble_eq_true rfl, Nat.le_of_ble_eq_true rfl⟩
theorem EncodeLength.outd : EncodeLength.Statement .outd := ⟨Nat.le_of_ble_eq_true rfl, Nat.le_of_ble_eq_true rfl⟩
theorem EncodeLength.ldir : EncodeLength.Statement .ldir := ⟨Nat.le_of_ble_eq_true rfl, Nat.le_of_ble_eq_true rfl⟩
theorem EncodeLength.cpir : EncodeLength.Statement .cpir := ⟨Nat.le_of_ble_eq_true rfl, Nat.le_of_ble_eq_true rfl⟩
theorem EncodeLength.inir : EncodeLength.Statement .inir := ⟨Nat.le_of_ble_eq_true rfl, Nat.le_of_ble_eq_true rfl⟩
theorem EncodeLength.otir : EncodeLength.Statement .otir := ⟨Nat.le_of_ble_eq_true rfl, Nat.le_of_ble_eq_true rfl⟩
theorem EncodeLength.lddr : EncodeLength.Statement .lddr := ⟨Nat.le_of_ble_eq_true rfl, Nat.le_of_ble_eq_true rfl⟩
theorem EncodeLength.cpdr : EncodeLength.Statement .cpdr := ⟨Nat.le_of_ble_eq_true rfl, Nat.le_of_ble_eq_true rfl⟩
theorem EncodeLength.indr : EncodeLength.Statement .indr := ⟨Nat.le_of_ble_eq_true rfl, Nat.le_of_ble_eq_true rfl⟩
theorem EncodeLength.otdr : EncodeLength.Statement .otdr := ⟨Nat.le_of_ble_eq_true rfl, Nat.le_of_ble_eq_true rfl⟩
theorem EncodeLength.incIx : EncodeLength.Statement .incIx := ⟨Nat.le_of_ble_eq_true rfl, Nat.le_of_ble_eq_true rfl⟩
theorem EncodeLength.decIx : EncodeLength.Statement .decIx := ⟨Nat.le_of_ble_eq_true rfl, Nat.le_of_ble_eq_true rfl⟩
theorem EncodeLength.popIx : EncodeLength.Statement .popIx := ⟨Nat.le_of_ble_eq_true rfl, Nat.le_of_ble_eq_true rfl⟩
theorem EncodeLength.exAtSpIx : EncodeLength.Statement .exAtSpIx := ⟨Nat.le_of_ble_eq_true rfl, Nat.le_of_ble_eq_true rfl⟩
theorem EncodeLength.pushIx : EncodeLength.Statement .pushIx := ⟨Nat.le_of_ble_eq_true rfl, Nat.le_of_ble_eq_true rfl⟩
theorem EncodeLength.jpIx : EncodeLength.Statement .jpIx := ⟨Nat.le_of_ble_eq_true rfl, Nat.le_of_ble_eq_true rfl⟩
theorem EncodeLength.ldSpIx : EncodeLength.Statement .ldSpIx := ⟨Nat.le_of_ble_eq_true rfl, Nat.le_of_ble_eq_true rfl⟩
theorem EncodeLength.incIy : EncodeLength.Statement .incIy := ⟨Nat.le_of_ble_eq_true rfl, Nat.le_of_ble_eq_true rfl⟩
theorem EncodeLength.decIy : EncodeLength.Statement .decIy := ⟨Nat.le_of_ble_eq_true rfl, Nat.le_of_ble_eq_true rfl⟩
theorem EncodeLength.popIy : EncodeLength.Statement .popIy := ⟨Nat.le_of_ble_eq_true rfl, Nat.le_of_ble_eq_true rfl⟩
theorem EncodeLength.exAtSpIy : EncodeLength.Statement .exAtSpIy := ⟨Nat.le_of_ble_eq_true rfl, Nat.le_of_ble_eq_true rfl⟩
theorem EncodeLength.pushIy : EncodeLength.Statement .pushIy := ⟨Nat.le_of_ble_eq_true rfl, Nat.le_of_ble_eq_true rfl⟩
theorem EncodeLength.jpIy : EncodeLength.Statement .jpIy := ⟨Nat.le_of_ble_eq_true rfl, Nat.le_of_ble_eq_true rfl⟩
theorem EncodeLength.ldSpIy : EncodeLength.Statement .ldSpIy := ⟨Nat.le_of_ble_eq_true rfl, Nat.le_of_ble_eq_true rfl⟩

end Sys2Proof.Laws
end

