-- ==== Sys2Proof/Laws/Step.lean ====
section
/-! SUPPORT. What the beginning of a step leaves: the inputs of the boundary are taken, and nothing that an
instruction reads has changed. -/

namespace Sys2Proof.Machine

/-! ### `popInput` and `latch` -/

@[simp] theorem popInput_main (s : State) : s.popInput.main = s.main := rfl
@[simp] theorem popInput_alt (s : State) : s.popInput.alt = s.alt := rfl
@[simp] theorem popInput_ix (s : State) : s.popInput.ix = s.ix := rfl
@[simp] theorem popInput_iy (s : State) : s.popInput.iy = s.iy := rfl
@[simp] theorem popInput_sp (s : State) : s.popInput.sp = s.sp := rfl
@[simp] theorem popInput_pc (s : State) : s.popInput.pc = s.pc := rfl
@[simp] theorem popInput_ireg (s : State) : s.popInput.ireg = s.ireg := rfl
@[simp] theorem popInput_iff1 (s : State) : s.popInput.iff1 = s.iff1 := rfl
@[simp] theorem popInput_iff2 (s : State) : s.popInput.iff2 = s.iff2 := rfl
@[simp] theorem popInput_im (s : State) : s.popInput.im = s.im := rfl
@[simp] theorem popInput_eiShadow (s : State) : s.popInput.eiShadow = s.eiShadow := rfl
@[simp] theorem popInput_halted (s : State) : s.popInput.halted = s.halted := rfl
@[simp] theorem popInput_busGranted (s : State) : s.popInput.busGranted = s.busGranted := rfl
@[simp] theorem popInput_debugStopped (s : State) : s.popInput.debugStopped = s.debugStopped := rfl
@[simp] theorem popInput_mem (s : State) : s.popInput.mem = s.mem := rfl
@[simp] theorem popInput_platform (s : State) : s.popInput.platform = s.platform := rfl
@[simp] theorem popInput_memDataIn (s : State) : s.popInput.memDataIn = s.memDataIn := rfl
@[simp] theorem popInput_sfrDataIn (s : State) : s.popInput.sfrDataIn = s.sfrDataIn := rfl
@[simp] theorem popInput_bus (s : State) : s.popInput.bus = s.bus := rfl
@[simp] theorem popInput_draws (s : State) : s.popInput.draws = s.draws := rfl
@[simp] theorem popInput_nmiPending (s : State) : s.popInput.nmiPending = s.nmiPending := rfl
@[simp] theorem popInput_debugEnable (s : State) : s.popInput.debugEnable = s.debugEnable := rfl
@[simp] theorem popInput_inputs (s : State) : s.popInput.inputs = s.inputs.tail := rfl
@[simp] theorem latch_main (s : State) (b : Boundary) : (s.latch b).main = s.main := rfl
@[simp] theorem latch_alt (s : State) (b : Boundary) : (s.latch b).alt = s.alt := rfl
@[simp] theorem latch_ix (s : State) (b : Boundary) : (s.latch b).ix = s.ix := rfl
@[simp] theorem latch_iy (s : State) (b : Boundary) : (s.latch b).iy = s.iy := rfl
@[simp] theorem latch_sp (s : State) (b : Boundary) : (s.latch b).sp = s.sp := rfl
@[simp] theorem latch_pc (s : State) (b : Boundary) : (s.latch b).pc = s.pc := rfl
@[simp] theorem latch_ireg (s : State) (b : Boundary) : (s.latch b).ireg = s.ireg := rfl
@[simp] theorem latch_iff1 (s : State) (b : Boundary) : (s.latch b).iff1 = s.iff1 := rfl
@[simp] theorem latch_iff2 (s : State) (b : Boundary) : (s.latch b).iff2 = s.iff2 := rfl
@[simp] theorem latch_im (s : State) (b : Boundary) : (s.latch b).im = s.im := rfl
@[simp] theorem latch_eiShadow (s : State) (b : Boundary) : (s.latch b).eiShadow = s.eiShadow := rfl
@[simp] theorem latch_halted (s : State) (b : Boundary) : (s.latch b).halted = s.halted := rfl
@[simp] theorem latch_busGranted (s : State) (b : Boundary) : (s.latch b).busGranted = s.busGranted := rfl
@[simp] theorem latch_debugStopped (s : State) (b : Boundary) : (s.latch b).debugStopped = s.debugStopped := rfl
@[simp] theorem latch_mem (s : State) (b : Boundary) : (s.latch b).mem = s.mem := rfl
@[simp] theorem latch_platform (s : State) (b : Boundary) : (s.latch b).platform = s.platform := rfl
@[simp] theorem latch_memDataIn (s : State) (b : Boundary) : (s.latch b).memDataIn = s.memDataIn := rfl
@[simp] theorem latch_sfrDataIn (s : State) (b : Boundary) : (s.latch b).sfrDataIn = s.sfrDataIn := rfl
@[simp] theorem latch_bus (s : State) (b : Boundary) : (s.latch b).bus = s.bus := rfl
@[simp] theorem latch_draws (s : State) (b : Boundary) : (s.latch b).draws = s.draws := rfl
@[simp] theorem latch_inputs (s : State) (b : Boundary) : (s.latch b).inputs = s.inputs := rfl
@[simp] theorem latch_nmiPending (s : State) (b : Boundary) :
    (s.latch b).nmiPending = (s.nmiPending || b.nmiEdge) := rfl
@[simp] theorem latch_debugEnable (s : State) (b : Boundary) :
    (s.latch b).debugEnable = b.debugEnable.getD s.debugEnable := rfl
@[simp] theorem popInput_peek (s : State) (y : Word) : s.popInput.peek y = s.peek y := rfl
@[simp] theorem popInput_kindAt (s : State) (y : Word) : s.popInput.kindAt y = s.kindAt y := rfl
@[simp] theorem popInput_sfrIn (s : State) : s.popInput.sfrIn = s.sfrIn := rfl
@[simp] theorem popInput_memIn (s : State) (y : Word) : s.popInput.memIn y = s.memIn y := rfl
@[simp] theorem latch_peek (s : State) (b : Boundary) (y : Word) : (s.latch b).peek y = s.peek y := rfl
@[simp] theorem latch_kindAt (s : State) (b : Boundary) (y : Word) : (s.latch b).kindAt y = s.kindAt y := rfl
@[simp] theorem latch_sfrIn (s : State) (b : Boundary) : (s.latch b).sfrIn = s.sfrIn := rfl
@[simp] theorem latch_memIn (s : State) (b : Boundary) (y : Word) : (s.latch b).memIn y = s.memIn y := rfl

/-! ### `busMaster` and `takeInputs` -/

/-- Another bus master changes nothing but memory. -/
theorem busMaster_eq (s : State) (b : Boundary) : s.busMaster b = { s with mem := (s.busMaster b).mem } := by
  unfold State.busMaster
  split
  · exact masterWrites_eq b.busWrites s
  · rfl

/-- While the processor has the buses, no other master acts. -/
theorem takeInputs_of_own_bus (s : State) (b : Boundary) (h : s.busGranted = false) : s.takeInputs b = s.latch b := by
  unfold State.takeInputs State.busMaster
  rw [latch_busGranted, h]
  rfl

/-- Taking the inputs changes the latched inputs and, while the bus is granted, memory. -/
theorem takeInputs_eq (s : State) (b : Boundary) : s.takeInputs b = { s.latch b with mem := (s.takeInputs b).mem } :=
  busMaster_eq (s.latch b) b

@[simp] theorem takeInputs_main (s : State) (b : Boundary) : (s.takeInputs b).main = s.main := by rw [takeInputs_eq]; rfl
@[simp] theorem takeInputs_alt (s : State) (b : Boundary) : (s.takeInputs b).alt = s.alt := by rw [takeInputs_eq]; rfl
@[simp] theorem takeInputs_ix (s : State) (b : Boundary) : (s.takeInputs b).ix = s.ix := by rw [takeInputs_eq]; rfl
@[simp] theorem takeInputs_iy (s : State) (b : Boundary) : (s.takeInputs b).iy = s.iy := by rw [takeInputs_eq]; rfl
@[simp] theorem takeInputs_sp (s : State) (b : Boundary) : (s.takeInputs b).sp = s.sp := by rw [takeInputs_eq]; rfl
@[simp] theorem takeInputs_pc (s : State) (b : Boundary) : (s.takeInputs b).pc = s.pc := by rw [takeInputs_eq]; rfl
@[simp] theorem takeInputs_ireg (s : State) (b : Boundary) : (s.takeInputs b).ireg = s.ireg := by rw [takeInputs_eq]; rfl
@[simp] theorem takeInputs_iff1 (s : State) (b : Boundary) : (s.takeInputs b).iff1 = s.iff1 := by rw [takeInputs_eq]; rfl
@[simp] theorem takeInputs_iff2 (s : State) (b : Boundary) : (s.takeInputs b).iff2 = s.iff2 := by rw [takeInputs_eq]; rfl
@[simp] theorem takeInputs_im (s : State) (b : Boundary) : (s.takeInputs b).im = s.im := by rw [takeInputs_eq]; rfl
@[simp] theorem takeInputs_eiShadow (s : State) (b : Boundary) : (s.takeInputs b).eiShadow = s.eiShadow := by rw [takeInputs_eq]; rfl
@[simp] theorem takeInputs_halted (s : State) (b : Boundary) : (s.takeInputs b).halted = s.halted := by rw [takeInputs_eq]; rfl
@[simp] theorem takeInputs_busGranted (s : State) (b : Boundary) : (s.takeInputs b).busGranted = s.busGranted := by rw [takeInputs_eq]; rfl
@[simp] theorem takeInputs_debugStopped (s : State) (b : Boundary) : (s.takeInputs b).debugStopped = s.debugStopped := by rw [takeInputs_eq]; rfl
@[simp] theorem takeInputs_platform (s : State) (b : Boundary) : (s.takeInputs b).platform = s.platform := by rw [takeInputs_eq]; rfl
@[simp] theorem takeInputs_memDataIn (s : State) (b : Boundary) : (s.takeInputs b).memDataIn = s.memDataIn := by rw [takeInputs_eq]; rfl
@[simp] theorem takeInputs_sfrDataIn (s : State) (b : Boundary) : (s.takeInputs b).sfrDataIn = s.sfrDataIn := by rw [takeInputs_eq]; rfl
@[simp] theorem takeInputs_bus (s : State) (b : Boundary) : (s.takeInputs b).bus = s.bus := by rw [takeInputs_eq]; rfl
@[simp] theorem takeInputs_draws (s : State) (b : Boundary) : (s.takeInputs b).draws = s.draws := by rw [takeInputs_eq]; rfl
@[simp] theorem takeInputs_inputs (s : State) (b : Boundary) : (s.takeInputs b).inputs = s.inputs := by rw [takeInputs_eq]; rfl
@[simp] theorem takeInputs_nmiPending (s : State) (b : Boundary) :
    (s.takeInputs b).nmiPending = (s.nmiPending || b.nmiEdge) := by rw [takeInputs_eq]; rfl
@[simp] theorem takeInputs_debugEnable (s : State) (b : Boundary) :
    (s.takeInputs b).debugEnable = b.debugEnable.getD s.debugEnable := by rw [takeInputs_eq]; rfl
@[simp] theorem takeInputs_kindAt (s : State) (b : Boundary) (y : Word) : (s.takeInputs b).kindAt y = s.kindAt y := by
  rw [takeInputs_eq]; rfl

/-- Taking the inputs of a boundary changes no register. -/
theorem frame_takeInputs (s : State) (b : Boundary) : SameRegsBut [] s (s.popInput.takeInputs b) := by
  rw [takeInputs_eq]
  intro n _
  cases n <;> rfl

/-- What the beginning of a step does: the inputs are taken, and another master that has the bus writes. -/
theorem inputsTaken_takeInputs (s : State) : InputsTaken s (s.popInput.takeInputs s.boundary) := by
  refine ⟨takeInputs_eq _ _, fun h => ?_, fun h => ?_⟩
  · rw [takeInputs_of_own_bus s.popInput s.boundary h]
    rfl
  have hw : s.popInput.takeInputs s.boundary = (s.popInput.latch s.boundary).masterWrites s.boundary.busWrites := by
    unfold State.takeInputs State.busMaster
    exact if_pos h
  rw [hw]
  refine ⟨fun a ha => masterWrites_peek_other _ _ a ha, fun before after a v hb ha => ?_⟩
  exact ⟨fun hk => hb ▸ masterWrites_peek_last before after _ a v hk ha,
    fun hk => masterWrites_peek_of_not_ram _ _ a hk⟩

theorem takeInputs_wf (s : State) (b : Boundary) (h : Memory.wf s.mem = true) :
    Memory.wf (s.takeInputs b).mem = true := busMaster_wf (s.latch b) b h

/-! ### The first tests of a step (R444) -/

/-- A step with `RST` is the reset (R443, R490). -/
theorem step_of_rst (s : State) (h : s.boundary.rst = true) :
    step s = .next ((s.popInput.takeInputs s.boundary).doReset s.boundary.stopAfterReset) := by
  unfold step State.stepAt
  rw [if_pos h]

/-- Where neither reset nor the debug unit comes first, a step goes on with the bus and the interrupts. -/
theorem step_of_running (s : State) (hr : s.boundary.rst = false)
    (hd : s.platform.variant = .tsk80aD → s.debugStopped = false ∧ s.boundary.debugStopRequest = false) :
    step s = (s.popInput.takeInputs s.boundary).runBoundary s.boundary := by
  unfold step State.stepAt State.afterDebug
  rw [hr, popInput_platform, takeInputs_platform, popInput_platform, popInput_debugStopped]
  cases hv : s.platform.variant with
  | tsk80a => rfl
  | tsk80aD =>
    obtain ⟨h5, h6⟩ := hd hv
    rw [h5, h6]
    rfl

/-- A step of a processor that the debug host holds is a turn of the host (R482). -/
theorem step_of_stopped (s : State) (hr : s.boundary.rst = false) (hv : s.platform.variant = .tsk80aD)
    (hd : s.debugStopped = true) : step s = (s.popInput.takeInputs s.boundary).hostTurn s.boundary := by
  unfold step State.stepAt
  rw [hr, popInput_platform, popInput_debugStopped, hv, hd]
  rfl

/-! ### Interrupt entry -/

/-- The common part of a maskable entry changes the two flip-flops only (R454, R455). -/
theorem frame_beginInt (s : State) : SameRegsBut [.iff1, .iff2] s s.beginInt := by
  intro n hn
  cases n <;> first | (simp at hn; done) | simp [State.readReg]

/-- The state in which `AcceptNMI` saves `pc` and goes to 0066h (R446). -/
def nmiBegun (s : State) : State :=
  { s.beginEntry.note (.nmiCycle s.pc) with nmiPending := false, iff2 := s.iff1 }

theorem acceptNmi_eq (s : State) : s.acceptNmi = (nmiBegun s).enterAt 0x0066 := rfl

/-- Before `pc` is saved, a non-maskable entry has changed the two flip-flops only. -/
theorem frame_nmiBegun (s : State) : SameRegsBut [.iff1, .iff2] s (nmiBegun s) := by
  intro n hn
  cases n <;> first | rfl | simp at hn

/-! ### Reset -/

/-- Every register is zero after a reset (R490). -/
theorem readReg_doReset (s : State) (stopped : Bool) (n : RegName) : (s.doReset stopped).readReg n = 0 := by
  cases n <;> rfl

end Sys2Proof.Machine
end

