-- ==== Sys2Proof/Tests/Slice0.lean ====
section
/-! SUPPORT. Tests of the model, each with its source in spec/, and a witness for the hypotheses of each
statement that has any. -/

namespace Sys2Proof.Tests

open Sys2Proof Sys2Proof.Machine

/-- The reset state with memory bytes, `pc` at 0100h. -/
def code (mem : Memory) : State := { State.reset with mem := mem, pc := 0x0100 }

/-- What a function says of the state after one step. -/
def ran {α : Type} (s : State) (f : State → α) : Option α :=
  match step s with
  | .next t => some (f t)
  | .fault _ => none
  | .refused _ => none

/-- The fault of one step, if it ends in one. -/
def stops (s : State) : Option Fault :=
  match step s with
  | .next _ => none
  | .fault e => some e
  | .refused _ => none

/-- A state whose next boundary has the given inputs. -/
def withInput (s : State) (b : Boundary) : State := { s with inputs := [b] }

/-- The reset state of a TSK80A. -/
def plain : State := { State.reset with platform := { Platform.initial with variant := .tsk80a } }

/-! ### Well-formedness: each check refuses an ill-formed term -/

theorem test_wf_restart : wellFormed .tsk80a (.rstP 0x01) = false := by decide

theorem test_wf_restart_high : wellFormed .tsk80aD (.rstP 0x40) = false := by decide

theorem test_wf_trap : wellFormed .tsk80a .trap = false := by decide

theorem test_wf_breakpoint : wellFormed .tsk80a .breakpoint64 = false := by decide

theorem test_wf_ld_h_h : wellFormed .tsk80aD .ldHH = false := by decide

/-! ### Decoding: words written out from the encodings of 30_encoding.md and the families' rules -/

/-- `01 r1r1r1 r2r2r2`, B = 000, C = 001 (R220, S9). -/
theorem test_word_ld_b_c : decode .tsk80a [0b01000001] = .ok (.ldBC, []) := by rfl

/-- `10 000 rrr`, D = 010 (R135). -/
theorem test_word_add_a_d : decode .tsk80a [0b10000010] = .ok (.addAD, []) := by rfl

/-- `11 111 110 n` (R203 and following, `CP n`). -/
theorem test_word_cp_n : decode .tsk80a [0b11111110, 0x2A] = .ok (.cpN 0x2A, []) := by rfl

/-- `00 rrr 100`, A = 111 (R151). -/
theorem test_word_inc_a : decode .tsk80a [0b00111100] = .ok (.incA, []) := by rfl

/-- ED, `01 pp 1010`, pp = 11 (R176). -/
theorem test_word_adc_hl_sp : decode .tsk80a [0b11101101, 0b01111010] = .ok (.adcHlPp .sp, []) := by rfl

/-- `00 pp 0001 nl nh`, pp = 01 (R250). -/
theorem test_word_ld_de_nn : decode .tsk80a [0b00010001, 0x34, 0x12] = .ok (.ldPpNn .de 0x1234, []) := by rfl

/-- `11 qq 0101`, qq = 11 is AF (R265 and following). -/
theorem test_word_push_af : decode .tsk80a [0b11110101] = .ok (.pushQq .af, []) := by rfl

/-- ED, `01 000 111` (R236). -/
theorem test_word_ld_i_a : decode .tsk80a [0b11101101, 0b01000111] = .ok (.ldIA, []) := by rfl

/-- `11 ccc 010 nl nh`, PE = 101 (R301). -/
theorem test_word_jp_pe : decode .tsk80a [0b11101010, 0x00, 0x20] = .ok (.jpCcNn .pe 0x2000, []) := by rfl

/-- `11 ttt 111`, ttt = 101 (R314). -/
theorem test_word_rst_28 : decode .tsk80a [0b11101111] = .ok (.rstP 0x28, []) := by rfl

/-- CB, `00 101 rrr`, H = 100 (R347 and following, `SRA r`). -/
theorem test_word_sra_h : decode .tsk80a [0b11001011, 0b00101100] = .ok (.sraH, []) := by rfl

/-- CB, `01 bbb rrr`, bit 5 of E (R365). -/
theorem test_word_bit_5_e : decode .tsk80a [0b11001011, 0b01101011] = .ok (.bitE 5, []) := by rfl

/-- FD CB d, `10 bbb 110`, bit 2 (R375 and following, `RES b,(IY+d)`). -/
theorem test_word_res_2_iyd :
    decode .tsk80a [0b11111101, 0b11001011, 0xFE, 0b10010110] = .ok (.resAtIyd 2 0xFE, []) := by rfl

/-- ED, `01 rrr 001`, L = 101 (R393). -/
theorem test_word_out_c_l : decode .tsk80a [0b11101101, 0b01101001] = .ok (.outPortCL, []) := by rfl

/-- ED, `10 111 011` (block output, `OTDR`). -/
theorem test_word_otdr : decode .tsk80a [0b11101101, 0b10111011] = .ok (.otdr, []) := by rfl

/-- `11 011 001` (R412). -/
theorem test_word_exx : decode .tsk80a [0b11011001] = .ok (.exx, []) := by rfl

/-- DD, `01 110 rrr d`, B = 000 (the indexed store). -/
theorem test_word_ld_ixd_b : decode .tsk80a [0b11011101, 0b01110000, 0x7F] = .ok (.ldAtIxdB 0x7F, []) := by rfl

/-- DD, `00 110 110 d n` (the indexed store of a byte): displacement before value. -/
theorem test_word_ld_iyd_n :
    decode .tsk80a [0b11111101, 0b00110110, 0x05, 0x99] = .ok (.ldAtIydN 0x05 0x99, []) := by rfl

/-- `00 100 111` (R281). -/
theorem test_word_daa : decode .tsk80a [0b00100111] = .ok (.daa, []) := by rfl

/-- 64h is `LD H,H` on the TSK80A and the software breakpoint on the TSK80A_D (R296). -/
theorem test_word_64 : decode .tsk80a [0x64] = .ok (.ldHH, []) ∧
    decode .tsk80aD [0x64] = .ok (.breakpoint64, []) := ⟨rfl, rfl⟩

/-- A table word is numbered with its first byte highest (log 33): C3 34 12. -/
theorem test_table_word : decodeTableWord 24 0xC33412 = some (.jpNn 0x1234) := by decide

/-- The word `LD A,20h` runs as the first instruction after reset. -/
theorem test_fetch_word : ran (State.reset.withFetchWord 16 0x3E20) (fun t => (t.main.a, t.pc)) = some (0x20, 2) := by
  decide

/-! ### One step each, from section 2 of spec/95_test_vectors.md -/

/-! Section 2.1 of spec/95_test_vectors.md. -/

theorem test_vec_add_a_b : ran ({ code [(0x0100, 0x80)] with main := { Bank.zero with a := 0x7F, b := 0x01 } })
    (fun t => (t.main.a, t.pc)) = some (0x80, 0x0101) := by decide

theorem test_vec_add_a_c : ran ({ code [(0x0100, 0x81)] with main := { Bank.zero with a := 0xFF, c := 0x01 } })
    (fun t => (t.main.a, t.pc)) = some (0x00, 0x0101) := by decide

theorem test_vec_adc_a_e : ran ({ code [(0x0100, 0x8B)] with main := { Bank.zero with a := 0x7F, e := 0x00, f := 0x01 } })
    (fun t => (t.main.a, t.pc)) = some (0x80, 0x0101) := by decide

theorem test_vec_adc_a_a : ran ({ code [(0x0100, 0x8F)] with main := { Bank.zero with a := 0x80, f := 0x01 } })
    (fun t => (t.main.a, t.pc)) = some (0x01, 0x0101) := by decide

theorem test_vec_sub_b : ran ({ code [(0x0100, 0x90)] with main := { Bank.zero with a := 0x00, b := 0x01 } })
    (fun t => (t.main.a, t.pc)) = some (0xFF, 0x0101) := by decide

theorem test_vec_sub_a : ran ({ code [(0x0100, 0x97)] with main := { Bank.zero with a := 0x5A, f := 0x01 } })
    (fun t => (t.main.a, t.pc)) = some (0x00, 0x0101) := by decide

theorem test_vec_sbc_a_c : ran ({ code [(0x0100, 0x99)] with main := { Bank.zero with a := 0x00, c := 0x00, f := 0x01 } })
    (fun t => (t.main.a, t.pc)) = some (0xFF, 0x0101) := by decide

theorem test_vec_sbc_a_n : ran ({ code [(0x0100, 0xDE), (0x0101, 0x7F)] with main := { Bank.zero with a := 0x80, f := 0x01 } })
    (fun t => (t.main.a, t.pc)) = some (0x00, 0x0102) := by decide

theorem test_vec_inc_a : ran ({ code [(0x0100, 0x3C)] with main := { Bank.zero with a := 0xFF, f := 0x00 } })
    (fun t => (t.main.a, t.pc)) = some (0x00, 0x0101) := by decide

theorem test_vec_inc_l : ran ({ code [(0x0100, 0x2C)] with main := { Bank.zero with l := 0x0F, f := 0x03 } })
    (fun t => (t.main.l, t.pc)) = some (0x10, 0x0101) := by decide

theorem test_vec_dec_a : ran ({ code [(0x0100, 0x3D)] with main := { Bank.zero with a := 0x00, f := 0x00 } })
    (fun t => (t.main.a, t.pc)) = some (0xFF, 0x0101) := by decide

theorem test_vec_dec_b : ran ({ code [(0x0100, 0x05)] with main := { Bank.zero with b := 0x80, f := 0x01 } })
    (fun t => (t.main.b, t.pc)) = some (0x7F, 0x0101) := by decide

/-! Section 2.2 of spec/95_test_vectors.md. -/

theorem test_vec_add_hl_bc : ran ({ code [(0x0100, 0x09)] with main := { Bank.zero with h := 0xFF, l := 0xFF, b := 0x00, c := 0x01, f := 0x86 } })
    (fun t => (t.hl, t.pc)) = some (0x0000, 0x0101) := by decide

theorem test_vec_add_hl_de : ran ({ code [(0x0100, 0x19)] with main := { Bank.zero with h := 0x08, l := 0x00, d := 0x08, e := 0x00, f := 0x40 } })
    (fun t => (t.hl, t.pc)) = some (0x1000, 0x0101) := by decide

theorem test_vec_adc_hl_bc : ran ({ code [(0x0100, 0xED), (0x0101, 0x4A)] with main := { Bank.zero with h := 0xFF, l := 0xFF, b := 0x00, c := 0x00, f := 0x01 } })
    (fun t => (t.hl, t.pc)) = some (0x0000, 0x0102) := by decide

theorem test_vec_adc_hl_de : ran ({ code [(0x0100, 0xED), (0x0101, 0x5A)] with main := { Bank.zero with h := 0x7F, l := 0xFF, d := 0x00, e := 0x01, f := 0x00 } })
    (fun t => (t.hl, t.pc)) = some (0x8000, 0x0102) := by decide

theorem test_vec_sbc_hl_bc : ran ({ code [(0x0100, 0xED), (0x0101, 0x42)] with main := { Bank.zero with h := 0x01, l := 0x00, b := 0x00, c := 0x01, f := 0x00 } })
    (fun t => (t.hl, t.pc)) = some (0x00FF, 0x0102) := by decide

theorem test_vec_sbc_hl_de : ran ({ code [(0x0100, 0xED), (0x0101, 0x52)] with main := { Bank.zero with h := 0x80, l := 0x00, d := 0x00, e := 0x01, f := 0x00 } })
    (fun t => (t.hl, t.pc)) = some (0x7FFF, 0x0102) := by decide

theorem test_vec_inc_bc : ran ({ code [(0x0100, 0x03)] with main := { Bank.zero with b := 0x00, c := 0xFF, f := 0x41 } })
    (fun t => (t.bc, t.pc)) = some (0x0100, 0x0101) := by decide

theorem test_vec_inc_sp : ran ({ code [(0x0100, 0x33)] with sp := 0xFFFF })
    (fun t => (t.sp, t.pc)) = some (0x0000, 0x0101) := by decide

theorem test_vec_dec_de : ran ({ code [(0x0100, 0x1B)] with main := { Bank.zero with d := 0x01, e := 0x00 } })
    (fun t => (t.de, t.pc)) = some (0x00FF, 0x0101) := by decide

theorem test_vec_dec_sp : ran ({ code [(0x0100, 0x3B)] with sp := 0x0000 })
    (fun t => (t.sp, t.pc)) = some (0xFFFF, 0x0101) := by decide

/-! Section 2.3 of spec/95_test_vectors.md. -/

theorem test_vec_and_b : ran ({ code [(0x0100, 0xA0)] with main := { Bank.zero with a := 0xFF, b := 0x00, f := 0x03 } })
    (fun t => (t.main.a, t.pc)) = some (0x00, 0x0101) := by decide

theorem test_vec_and_a : ran ({ code [(0x0100, 0xA7)] with main := { Bank.zero with a := 0x80, f := 0x01 } })
    (fun t => (t.main.a, t.pc)) = some (0x80, 0x0101) := by decide

theorem test_vec_or_c : ran ({ code [(0x0100, 0xB1)] with main := { Bank.zero with a := 0x00, c := 0x00, f := 0x13 } })
    (fun t => (t.main.a, t.pc)) = some (0x00, 0x0101) := by decide

theorem test_vec_or_a : ran ({ code [(0x0100, 0xB7)] with main := { Bank.zero with a := 0x81, f := 0x01 } })
    (fun t => (t.main.a, t.pc)) = some (0x81, 0x0101) := by decide

theorem test_vec_xor_a : ran ({ code [(0x0100, 0xAF)] with main := { Bank.zero with a := 0x5A, f := 0x13 } })
    (fun t => (t.main.a, t.pc)) = some (0x00, 0x0101) := by decide

theorem test_vec_xor_d : ran ({ code [(0x0100, 0xAA)] with main := { Bank.zero with a := 0xF0, d := 0x71 } })
    (fun t => (t.main.a, t.pc)) = some (0x81, 0x0101) := by decide

theorem test_vec_cp_b : ran ({ code [(0x0100, 0xB8)] with main := { Bank.zero with a := 0x80, b := 0x80 } })
    (fun t => (t.main.a, t.pc)) = some (0x80, 0x0101) := by decide

theorem test_vec_cp_n : ran ({ code [(0x0100, 0xFE), (0x0101, 0x80)] with main := { Bank.zero with a := 0x7F } })
    (fun t => (t.main.a, t.pc)) = some (0x7F, 0x0102) := by decide

/-! Section 2.4 of spec/95_test_vectors.md. -/

theorem test_vec_ld_b_c : ran ({ code [(0x0100, 0x41)] with main := { Bank.zero with b := 0x11, c := 0x22 } })
    (fun t => (t.main.b, t.pc)) = some (0x22, 0x0101) := by decide

theorem test_vec_ld_a_a : ran ({ code [(0x0100, 0x7F)] with main := { Bank.zero with a := 0x99 } })
    (fun t => (t.main.a, t.pc)) = some (0x99, 0x0101) := by decide

theorem test_vec_ld_h_l : ran ({ code [(0x0100, 0x65)] with main := { Bank.zero with h := 0x12, l := 0xAB } })
    (fun t => (t.hl, t.pc)) = some (0xABAB, 0x0101) := by decide

theorem test_vec_ld_h_h_at_tsk80a : ran ({ code [(0x0100, 0x64)] with main := { Bank.zero with h := 0x12, l := 0xAB }, platform := { Platform.initial with variant := .tsk80a } })
    (fun t => (t.hl, t.pc)) = some (0x12AB, 0x0101) := by decide

theorem test_vec_ld_a_at_hl : ran ({ code [(0x0100, 0x7E), (0xFFFF, 0x5C)] with main := { Bank.zero with h := 0xFF, l := 0xFF } })
    (fun t => (t.main.a, t.pc)) = some (0x5C, 0x0101) := by decide

theorem test_vec_ld_l_at_hl : ran ({ code [(0x0100, 0x6E), (0x4000, 0x77)] with main := { Bank.zero with h := 0x40, l := 0x00 } })
    (fun t => (t.hl, t.pc)) = some (0x4077, 0x0101) := by decide

theorem test_vec_ld_at_hl_h : ran ({ code [(0x0100, 0x74)] with main := { Bank.zero with h := 0x40, l := 0x00 } })
    (fun t => (t.peek 0x4000, t.pc)) = some (0x40, 0x0101) := by decide

theorem test_vec_ld_at_hl_n : ran ({ code [(0x0100, 0x36), (0x0101, 0xA5)] with main := { Bank.zero with h := 0x80, l := 0x00 } })
    (fun t => (t.peek 0x8000, t.pc)) = some (0xA5, 0x0102) := by decide

theorem test_vec_ld_d_at_ix_d : ran ({ code [(0x0100, 0xDD), (0x0101, 0x56), (0x0102, 0x80), (0xFF90, 0x3D)] with ix := 0x0010 })
    (fun t => (t.main.d, t.pc)) = some (0x3D, 0x0103) := by decide

theorem test_vec_ld_h_at_iy_d : ran ({ code [(0x0100, 0xFD), (0x0101, 0x66), (0x0102, 0x01), (0x2001, 0x9A)] with main := { Bank.zero with h := 0x11, l := 0x11 }, iy := 0x2000 })
    (fun t => (t.hl, t.pc)) = some (0x9A11, 0x0103) := by decide

theorem test_vec_ld_at_ix_d_l : ran ({ code [(0x0100, 0xDD), (0x0101, 0x75), (0x0102, 0x7F)] with main := { Bank.zero with l := 0x44 }, ix := 0xFFF0 })
    (fun t => (t.peek 0x006F, t.pc)) = some (0x44, 0x0103) := by decide

theorem test_vec_ld_at_iy_d_a : ran ({ code [(0x0100, 0xFD), (0x0101, 0x77), (0x0102, 0xFD)] with main := { Bank.zero with a := 0x12 }, iy := 0x3003 })
    (fun t => (t.peek 0x3000, t.pc)) = some (0x12, 0x0103) := by decide

/-! Section 2.5 of spec/95_test_vectors.md. -/

theorem test_vec_ld_bc_nn : ran (code [(0x0100, 0x01), (0x0101, 0x34), (0x0102, 0x12)])
    (fun t => (t.bc, t.pc)) = some (0x1234, 0x0103) := by decide

theorem test_vec_ld_sp_nn : ran (code [(0x0100, 0x31), (0x0101, 0x00), (0x0102, 0x06)])
    (fun t => (t.sp, t.pc)) = some (0x0600, 0x0103) := by decide

theorem test_vec_ld_ix_nn : ran (code [(0x0100, 0xDD), (0x0101, 0x21), (0x0102, 0xCD), (0x0103, 0xAB)])
    (fun t => (t.ix, t.pc)) = some (0xABCD, 0x0104) := by decide

theorem test_vec_ld_iy_nn : ran (code [(0x0100, 0xFD), (0x0101, 0x21), (0x0102, 0x01), (0x0103, 0x00)])
    (fun t => (t.iy, t.pc)) = some (0x0001, 0x0104) := by decide

theorem test_vec_ld_at_nn_hl : ran ({ code [(0x0100, 0x22), (0x0101, 0xFF), (0x0102, 0xFF)] with main := { Bank.zero with h := 0xAB, l := 0xCD } })
    (fun t => (t.peek 0xFFFF, t.peek 0x0000, t.pc)) = some (0xCD, 0xAB, 0x0103) := by decide

theorem test_vec_ld_at_nn_bc : ran ({ code [(0x0100, 0xED), (0x0101, 0x43), (0x0102, 0x00), (0x0103, 0x04)] with main := { Bank.zero with b := 0x2A, c := 0x04 } })
    (fun t => (t.peek 0x0400, t.peek 0x0401, t.pc)) = some (0x04, 0x2A, 0x0104) := by decide

theorem test_vec_ld_at_nn_hl_at_ed_form : ran ({ code [(0x0100, 0xED), (0x0101, 0x63), (0x0102, 0x00), (0x0103, 0x50)] with main := { Bank.zero with h := 0x12, l := 0x34 } })
    (fun t => (t.peek 0x5000, t.peek 0x5001, t.pc)) = some (0x34, 0x12, 0x0104) := by decide

theorem test_vec_ld_at_nn_sp : ran ({ code [(0x0100, 0xED), (0x0101, 0x73), (0x0102, 0x10), (0x0103, 0x40)] with sp := 0x05FB })
    (fun t => (t.peek 0x4010, t.peek 0x4011, t.pc)) = some (0xFB, 0x05, 0x0104) := by decide

theorem test_vec_ld_at_nn_ix : ran ({ code [(0x0100, 0xDD), (0x0101, 0x22), (0x0102, 0x00), (0x0103, 0x60)] with ix := 0xBEEF })
    (fun t => (t.peek 0x6000, t.peek 0x6001, t.pc)) = some (0xEF, 0xBE, 0x0104) := by decide

theorem test_vec_ld_at_nn_iy : ran ({ code [(0x0100, 0xFD), (0x0101, 0x22), (0x0102, 0xFE), (0x0103, 0xFF)] with iy := 0x0102 })
    (fun t => (t.peek 0xFFFE, t.peek 0xFFFF, t.pc)) = some (0x02, 0x01, 0x0104) := by decide

theorem test_vec_ld_hl_at_nn : ran (code [(0x0100, 0x2A), (0x0101, 0x00), (0x0102, 0x30), (0x3000, 0x78), (0x3001, 0x56)])
    (fun t => (t.hl, t.pc)) = some (0x5678, 0x0103) := by decide

theorem test_vec_ld_de_at_nn : ran (code [(0x0000, 0x22), (0x0100, 0xED), (0x0101, 0x5B), (0x0102, 0xFF), (0x0103, 0xFF), (0xFFFF, 0x11)])
    (fun t => (t.de, t.pc)) = some (0x2211, 0x0104) := by decide

theorem test_vec_ld_hl_at_nn_at_ed_form : ran (code [(0x0100, 0xED), (0x0101, 0x6B), (0x0102, 0x00), (0x0103, 0x30), (0x3000, 0x01), (0x3001, 0x80)])
    (fun t => (t.hl, t.pc)) = some (0x8001, 0x0104) := by decide

theorem test_vec_ld_sp_at_nn : ran (code [(0x0100, 0xED), (0x0101, 0x7B), (0x0102, 0x00), (0x0103, 0x30), (0x3000, 0xFE), (0x3001, 0x05)])
    (fun t => (t.sp, t.pc)) = some (0x05FE, 0x0104) := by decide

theorem test_vec_ld_ix_at_nn : ran (code [(0x0100, 0xDD), (0x0101, 0x2A), (0x0102, 0x00), (0x0103, 0x30), (0x3000, 0x0A), (0x3001, 0x0B)])
    (fun t => (t.ix, t.pc)) = some (0x0B0A, 0x0104) := by decide

theorem test_vec_ld_iy_at_nn : ran (code [(0x0100, 0xFD), (0x0101, 0x2A), (0x0102, 0x00), (0x0103, 0x30), (0x3000, 0x0C), (0x3001, 0x0D)])
    (fun t => (t.iy, t.pc)) = some (0x0D0C, 0x0104) := by decide

theorem test_vec_ld_sp_hl : ran ({ code [(0x0100, 0xF9)] with main := { Bank.zero with h := 0x06, l := 0x00 } })
    (fun t => (t.sp, t.pc)) = some (0x0600, 0x0101) := by decide

theorem test_vec_ld_sp_ix : ran ({ code [(0x0100, 0xDD), (0x0101, 0xF9)] with ix := 0x8000 })
    (fun t => (t.sp, t.pc)) = some (0x8000, 0x0102) := by decide

theorem test_vec_ld_sp_iy : ran ({ code [(0x0100, 0xFD), (0x0101, 0xF9)] with iy := 0xFFFF })
    (fun t => (t.sp, t.pc)) = some (0xFFFF, 0x0102) := by decide

theorem test_vec_push_bc : ran ({ code [(0x0100, 0xC5)] with main := { Bank.zero with b := 0x12, c := 0x34 }, sp := 0x0001 })
    (fun t => (t.sp, t.peek 0x0000, t.peek 0xFFFF)) = some (0xFFFF, 0x12, 0x34) := by decide

theorem test_vec_push_de : ran ({ code [(0x0100, 0xD5)] with main := { Bank.zero with d := 0xA5, e := 0x5A }, sp := 0x0600 })
    (fun t => (t.sp, t.peek 0x05FF, t.peek 0x05FE)) = some (0x05FE, 0xA5, 0x5A) := by decide

theorem test_vec_pop_hl : ran ({ code [(0x0000, 0x12), (0x0100, 0xE1), (0xFFFF, 0x34)] with sp := 0xFFFF })
    (fun t => (t.hl, t.sp, t.pc)) = some (0x1234, 0x0001, 0x0101) := by decide

theorem test_vec_pop_af : ran ({ code [(0x0100, 0xF1), (0x05FE, 0xFF), (0x05FF, 0x80)] with sp := 0x05FE })
    (fun t => (t.main.a, t.sp, t.pc)) = some (0x80, 0x0600, 0x0101) := by decide

/-! Section 2.6 of spec/95_test_vectors.md. -/

theorem test_vec_nop : ran ({ code [(0x0100, 0x00)] with main := { Bank.zero with a := 0x12, f := 0xFF } })
    (fun t => t.pc) = some 0x0101 := by decide

theorem test_vec_daa : ran ({ code [(0x0100, 0x27)] with main := { Bank.zero with a := 0x9A, f := 0x00 } })
    (fun t => (t.main.a, t.pc)) = some (0x00, 0x0101) := by decide

theorem test_vec_cpl : ran ({ code [(0x0100, 0x2F)] with main := { Bank.zero with a := 0xB4, f := 0xC5 } })
    (fun t => (t.main.a, t.pc)) = some (0x4B, 0x0101) := by decide

theorem test_vec_neg : ran ({ code [(0x0100, 0xED), (0x0101, 0x44)] with main := { Bank.zero with a := 0x80 } })
    (fun t => (t.main.a, t.pc)) = some (0x80, 0x0102) := by decide

theorem test_vec_ccf : ran ({ code [(0x0100, 0x3F)] with main := { Bank.zero with f := 0xC7 } })
    (fun t => t.pc) = some 0x0101 := by decide

theorem test_vec_scf : ran ({ code [(0x0100, 0x37)] with main := { Bank.zero with f := 0x52 } })
    (fun t => t.pc) = some 0x0101 := by decide

theorem test_vec_halt : ran (code [(0x0100, 0x76)])
    (fun t => (t.halted, t.pc)) = some (true, 0x0101) := by decide

theorem test_vec_ei : ran (code [(0x0100, 0xFB)])
    (fun t => (t.iff1, t.iff2, t.eiShadow)) = some (true, true, true) := by decide

theorem test_vec_di : ran ({ code [(0x0100, 0xF3)] with iff1 := true, iff2 := true })
    (fun t => (t.iff1, t.iff2, t.pc)) = some (false, false, 0x0101) := by decide

theorem test_vec_im_1 : ran (code [(0x0100, 0xED), (0x0101, 0x56)])
    (fun t => (t.im, t.pc)) = some (.im1, 0x0102) := by decide

theorem test_vec_im_2 : ran (code [(0x0100, 0xED), (0x0101, 0x5E)])
    (fun t => (t.im, t.pc)) = some (.im2, 0x0102) := by decide

theorem test_vec_trap_at_tsk80a_d_debugenable_0 : ran (code [(0x0100, 0xED), (0x0101, 0x00)])
    (fun t => t.pc) = some 0x0102 := by decide

theorem test_vec_trap_at_tsk80a_d_debugenable_1 : ran ({ code [(0x0100, 0xED), (0x0101, 0x00)] with debugEnable := true })
    (fun t => t.pc) = some 0x0100 := by decide

theorem test_vec_64h_at_tsk80a_d : ran ({ code [(0x0100, 0x64)] with main := { Bank.zero with h := 0x12, l := 0xAB } })
    (fun t => t.pc) = some 0x0100 := by decide

/-! Section 2.7 of spec/95_test_vectors.md. -/

theorem test_vec_jp_nn : ran ({ code [(0x0000, 0xC3), (0x0001, 0x00), (0x0002, 0x01)] with pc := 0x0000 })
    (fun t => t.pc) = some 0x0100 := by decide

theorem test_vec_jp_nz_nn : ran ({ code [(0x0100, 0xC2), (0x0101, 0x36), (0x0102, 0x01)] with main := { Bank.zero with f := 0x00 } })
    (fun t => t.pc) = some 0x0136 := by decide

theorem test_vec_jr_e : ran (code [(0x0100, 0x18), (0x0101, 0x00)])
    (fun t => t.pc) = some 0x0102 := by decide

theorem test_vec_jr_nz_e : ran ({ code [(0x0100, 0x20), (0x0101, 0x10)] with main := { Bank.zero with f := 0x00 } })
    (fun t => t.pc) = some 0x0112 := by decide

theorem test_vec_djnz_e : ran ({ code [(0x0100, 0x10), (0x0101, 0xFE)] with main := { Bank.zero with b := 0x02, f := 0xFF } })
    (fun t => (t.main.b, t.pc)) = some (0x01, 0x0100) := by decide

theorem test_vec_call_nn : ran ({ code [(0x0100, 0xCD), (0x0101, 0x34), (0x0102, 0x12)] with sp := 0x0600 })
    (fun t => (t.sp, t.peek 0x05FF, t.peek 0x05FE)) = some (0x05FE, 0x01, 0x03) := by decide

theorem test_vec_call_nz_nn : ran ({ code [(0x0100, 0xC4), (0x0101, 0x00), (0x0102, 0x20)] with main := { Bank.zero with f := 0x40 }, sp := 0x0600 })
    (fun t => t.pc) = some 0x0103 := by decide

theorem test_vec_ret : ran ({ code [(0x0100, 0xC9), (0x05FE, 0x03), (0x05FF, 0x01)] with sp := 0x05FE })
    (fun t => (t.sp, t.pc)) = some (0x0600, 0x0103) := by decide

theorem test_vec_ret_z : ran ({ code [(0x0100, 0xC8), (0x05FE, 0x03), (0x05FF, 0x01)] with main := { Bank.zero with f := 0x00 }, sp := 0x05FE })
    (fun t => (t.sp, t.pc)) = some (0x05FE, 0x0101) := by decide

theorem test_vec_reti : ran ({ code [(0x0100, 0xED), (0x0101, 0x4D), (0x05FE, 0x50), (0x05FF, 0x01)] with sp := 0x05FE, iff1 := false, iff2 := true })
    (fun t => (t.sp, t.iff1, t.iff2)) = some (0x0600, false, true) := by decide

theorem test_vec_retn : ran ({ code [(0x0100, 0xED), (0x0101, 0x45), (0x05FE, 0x50), (0x05FF, 0x01)] with sp := 0x05FE, iff1 := false, iff2 := true })
    (fun t => (t.sp, t.iff1, t.iff2)) = some (0x0600, true, true) := by decide

theorem test_vec_rst_00h : ran ({ code [(0x0100, 0xC7)] with sp := 0x0600 })
    (fun t => (t.sp, t.peek 0x05FF, t.peek 0x05FE)) = some (0x05FE, 0x01, 0x01) := by decide

theorem test_vec_rst_28h : ran ({ code [(0x1FFF, 0xEF)] with sp := 0x0600, pc := 0x1FFF })
    (fun t => (t.sp, t.peek 0x05FF, t.peek 0x05FE)) = some (0x05FE, 0x20, 0x00) := by decide

/-! Section 2.8 of spec/95_test_vectors.md. -/

theorem test_vec_rlca : ran ({ code [(0x0100, 0x07)] with main := { Bank.zero with a := 0x81, f := 0xD6 } })
    (fun t => (t.main.a, t.pc)) = some (0x03, 0x0101) := by decide

theorem test_vec_rla : ran ({ code [(0x0100, 0x17)] with main := { Bank.zero with a := 0x80, f := 0x00 } })
    (fun t => (t.main.a, t.pc)) = some (0x00, 0x0101) := by decide

theorem test_vec_rrca : ran ({ code [(0x0100, 0x0F)] with main := { Bank.zero with a := 0x01, f := 0x00 } })
    (fun t => (t.main.a, t.pc)) = some (0x80, 0x0101) := by decide

theorem test_vec_rra : ran ({ code [(0x0100, 0x1F)] with main := { Bank.zero with a := 0x01, f := 0xD6 } })
    (fun t => (t.main.a, t.pc)) = some (0x00, 0x0101) := by decide

theorem test_vec_rlc_d : ran ({ code [(0x0100, 0xCB), (0x0101, 0x02)] with main := { Bank.zero with d := 0x80 } })
    (fun t => (t.main.d, t.pc)) = some (0x01, 0x0102) := by decide

theorem test_vec_rlc_at_hl : ran ({ code [(0x0100, 0xCB), (0x0101, 0x06), (0x4000, 0x55)] with main := { Bank.zero with h := 0x40, l := 0x00 } })
    (fun t => (t.peek 0x4000, t.pc)) = some (0xAA, 0x0102) := by decide

theorem test_vec_rl_e : ran ({ code [(0x0100, 0xCB), (0x0101, 0x13)] with main := { Bank.zero with e := 0x80, f := 0x00 } })
    (fun t => (t.main.e, t.pc)) = some (0x00, 0x0102) := by decide

theorem test_vec_rl_at_iy_d : ran ({ code [(0x0100, 0xFD), (0x0101, 0xCB), (0x0102, 0xFF), (0x0103, 0x16), (0x4000, 0x7F)] with main := { Bank.zero with f := 0x01 }, iy := 0x4001 })
    (fun t => (t.peek 0x4000, t.pc)) = some (0xFF, 0x0104) := by decide

theorem test_vec_rrc_a : ran ({ code [(0x0100, 0xCB), (0x0101, 0x0F)] with main := { Bank.zero with a := 0x00, f := 0x01 } })
    (fun t => (t.main.a, t.pc)) = some (0x00, 0x0102) := by decide

theorem test_vec_rrc_at_hl : ran ({ code [(0x0100, 0xCB), (0x0101, 0x0E), (0x4000, 0x03)] with main := { Bank.zero with h := 0x40, l := 0x00 } })
    (fun t => (t.peek 0x4000, t.pc)) = some (0x81, 0x0102) := by decide

theorem test_vec_rr_h : ran ({ code [(0x0100, 0xCB), (0x0101, 0x1C)] with main := { Bank.zero with h := 0x01, f := 0x00 } })
    (fun t => (t.main.h, t.pc)) = some (0x00, 0x0102) := by decide

theorem test_vec_rr_at_ix_d : ran ({ code [(0x0100, 0xDD), (0x0101, 0xCB), (0x0102, 0x00), (0x0103, 0x1E), (0x4000, 0x02)] with main := { Bank.zero with f := 0x01 }, ix := 0x4000 })
    (fun t => (t.peek 0x4000, t.pc)) = some (0x81, 0x0104) := by decide

theorem test_vec_sla_l : ran ({ code [(0x0100, 0xCB), (0x0101, 0x25)] with main := { Bank.zero with l := 0xC0, f := 0x00 } })
    (fun t => (t.main.l, t.pc)) = some (0x80, 0x0102) := by decide

theorem test_vec_sla_at_hl : ran ({ code [(0x0100, 0xCB), (0x0101, 0x26), (0x4000, 0x40)] with main := { Bank.zero with h := 0x40, l := 0x00, f := 0x01 } })
    (fun t => (t.peek 0x4000, t.pc)) = some (0x80, 0x0102) := by decide

theorem test_vec_sra_b : ran ({ code [(0x0100, 0xCB), (0x0101, 0x28)] with main := { Bank.zero with b := 0x81 } })
    (fun t => (t.main.b, t.pc)) = some (0xC0, 0x0102) := by decide

theorem test_vec_sra_at_iy_d : ran ({ code [(0x0100, 0xFD), (0x0101, 0xCB), (0x0102, 0x10), (0x0103, 0x2E), (0x4010, 0x7E)] with iy := 0x4000 })
    (fun t => (t.peek 0x4010, t.pc)) = some (0x3F, 0x0104) := by decide

theorem test_vec_srl_c : ran ({ code [(0x0100, 0xCB), (0x0101, 0x39)] with main := { Bank.zero with c := 0x81 } })
    (fun t => (t.main.c, t.pc)) = some (0x40, 0x0102) := by decide

theorem test_vec_srl_at_hl : ran ({ code [(0x0100, 0xCB), (0x0101, 0x3E), (0x4000, 0x01)] with main := { Bank.zero with h := 0x40, l := 0x00 } })
    (fun t => (t.peek 0x4000, t.pc)) = some (0x00, 0x0102) := by decide

theorem test_vec_rld : ran ({ code [(0x0100, 0xED), (0x0101, 0x6F), (0x5000, 0x31)] with main := { Bank.zero with a := 0x7A, h := 0x50, l := 0x00, f := 0x13 } })
    (fun t => (t.main.a, t.peek 0x5000, t.pc)) = some (0x73, 0x1A, 0x0102) := by decide

theorem test_vec_rrd : ran ({ code [(0x0100, 0xED), (0x0101, 0x67), (0x5000, 0x20)] with main := { Bank.zero with a := 0x84, h := 0x50, l := 0x00, f := 0x01 } })
    (fun t => (t.main.a, t.peek 0x5000, t.pc)) = some (0x80, 0x42, 0x0102) := by decide

theorem test_vec_bit_0_b : ran ({ code [(0x0100, 0xCB), (0x0101, 0x40)] with main := { Bank.zero with b := 0x01, f := 0x03 } })
    (fun t => t.pc) = some 0x0102 := by decide

theorem test_vec_bit_7_a : ran ({ code [(0x0100, 0xCB), (0x0101, 0x7F)] with main := { Bank.zero with a := 0x80 } })
    (fun t => (t.main.a, t.pc)) = some (0x80, 0x0102) := by decide

theorem test_vec_set_7_a : ran ({ code [(0x0100, 0xCB), (0x0101, 0xFF)] with main := { Bank.zero with a := 0x00, f := 0x00 } })
    (fun t => (t.main.a, t.pc)) = some (0x80, 0x0102) := by decide

theorem test_vec_set_0_at_hl : ran ({ code [(0x0100, 0xCB), (0x0101, 0xC6), (0x4000, 0x01)] with main := { Bank.zero with h := 0x40, l := 0x00 } })
    (fun t => (t.peek 0x4000, t.pc)) = some (0x01, 0x0102) := by decide

theorem test_vec_res_0_b : ran ({ code [(0x0100, 0xCB), (0x0101, 0x80)] with main := { Bank.zero with b := 0xFF, f := 0xFF } })
    (fun t => (t.main.b, t.pc)) = some (0xFE, 0x0102) := by decide

theorem test_vec_res_7_at_hl : ran ({ code [(0x0100, 0xCB), (0x0101, 0xBE), (0x4000, 0x80)] with main := { Bank.zero with h := 0x40, l := 0x00 } })
    (fun t => (t.peek 0x4000, t.pc)) = some (0x00, 0x0102) := by decide

/-! Section 2.9 of spec/95_test_vectors.md. -/

theorem test_vec_in_a_at_n : ran ({ code [(0x0100, 0xDB), (0x0101, 0x05)] with main := { Bank.zero with a := 0x20, f := 0xFF }, sfrDataIn := [0x00] })
    (fun t => (t.main.a, t.pc)) = some (0x00, 0x0102) := by decide

theorem test_vec_out_at_n_a : ran ({ code [(0x0100, 0xD3), (0x0101, 0x05)] with main := { Bank.zero with a := 0x20 } })
    (fun t => t.pc) = some 0x0102 := by decide

theorem test_vec_in_b_at_c : ran ({ code [(0x0100, 0xED), (0x0101, 0x40)] with main := { Bank.zero with b := 0x12, c := 0x34, f := 0x13 }, sfrDataIn := [0x80] })
    (fun t => (t.bc, t.pc)) = some (0x8034, 0x0102) := by decide

theorem test_vec_out_at_c_b : ran ({ code [(0x0100, 0xED), (0x0101, 0x41)] with main := { Bank.zero with b := 0x2A, c := 0x04 } })
    (fun t => t.pc) = some 0x0102 := by decide

theorem test_vec_ini : ran ({ code [(0x0100, 0xED), (0x0101, 0xA2)] with main := { Bank.zero with b := 0x01, c := 0x10, h := 0xFF, l := 0xFF, f := 0x00 }, sfrDataIn := [0x42] })
    (fun t => (t.bc, t.hl, t.peek 0xFFFF)) = some (0x0010, 0x0000, 0x42) := by decide

theorem test_vec_ind : ran ({ code [(0x0100, 0xED), (0x0101, 0xAA)] with main := { Bank.zero with b := 0x02, c := 0x10, h := 0x00, l := 0x00, f := 0x95 }, sfrDataIn := [0x01] })
    (fun t => (t.bc, t.hl, t.peek 0x0000)) = some (0x0110, 0xFFFF, 0x01) := by decide

theorem test_vec_outi : ran ({ code [(0x0100, 0xED), (0x0101, 0xA3), (0x5000, 0x99)] with main := { Bank.zero with b := 0x00, c := 0x10, h := 0x50, l := 0x00, f := 0x81 } })
    (fun t => (t.bc, t.hl, t.pc)) = some (0xFF10, 0x5001, 0x0102) := by decide

theorem test_vec_outd : ran ({ code [(0x0000, 0x11), (0x0100, 0xED), (0x0101, 0xAB)] with main := { Bank.zero with b := 0x01, c := 0x10, h := 0x00, l := 0x00 } })
    (fun t => (t.bc, t.hl, t.pc)) = some (0x0010, 0xFFFF, 0x0102) := by decide

/-! Section 2.10 of spec/95_test_vectors.md. -/

theorem test_vec_ex_de_hl : ran ({ code [(0x0100, 0xEB)] with main := { Bank.zero with d := 0x12, e := 0x34, h := 0xAB, l := 0xCD } })
    (fun t => (t.de, t.hl, t.pc)) = some (0xABCD, 0x1234, 0x0101) := by decide

theorem test_vec_ex_af_af_alt : ran ({ code [(0x0100, 0x08)] with main := { Bank.zero with a := 0x12, f := 0xD7 }, alt := { Bank.zero with a := 0x34, f := 0x28 } })
    (fun t => (t.main.a, t.alt.a, t.pc)) = some (0x34, 0x12, 0x0101) := by decide

theorem test_vec_exx : ran ({ code [(0x0100, 0xD9)] with main := { Bank.zero with b := 0x11, c := 0x11, d := 0x22, e := 0x22, h := 0x33, l := 0x33, a := 0x99 }, alt := { Bank.zero with b := 0xAA, c := 0xBB, d := 0xCC, e := 0xDD, h := 0xEE, l := 0xFF } })
    (fun t => (t.main.a, t.bc, t.de)) = some (0x99, 0xAABB, 0xCCDD) := by decide

theorem test_vec_ldi : ran ({ code [(0x0100, 0xED), (0x0101, 0xA0), (0xFFFF, 0x5A)] with main := { Bank.zero with h := 0xFF, l := 0xFF, d := 0x20, e := 0x00, b := 0x00, c := 0x01, f := 0xD3 } })
    (fun t => (t.bc, t.de, t.hl)) = some (0x0000, 0x2001, 0x0000) := by decide

theorem test_vec_ldd : ran ({ code [(0x0000, 0x77), (0x0100, 0xED), (0x0101, 0xA8)] with main := { Bank.zero with h := 0x00, l := 0x00, d := 0x00, e := 0x00, b := 0x00, c := 0x02 } })
    (fun t => (t.bc, t.de, t.hl)) = some (0x0001, 0xFFFF, 0xFFFF) := by decide

theorem test_vec_cpi : ran ({ code [(0x0100, 0xED), (0x0101, 0xA1), (0x1000, 0x01)] with main := { Bank.zero with a := 0x10, h := 0x10, l := 0x00, b := 0x00, c := 0x02, f := 0x01 } })
    (fun t => (t.main.a, t.bc, t.hl)) = some (0x10, 0x0001, 0x1001) := by decide

theorem test_vec_cpd : ran ({ code [(0x0000, 0x01), (0x0100, 0xED), (0x0101, 0xA9)] with main := { Bank.zero with a := 0x00, h := 0x00, l := 0x00, b := 0x00, c := 0x00 } })
    (fun t => (t.main.a, t.bc, t.hl)) = some (0x00, 0xFFFF, 0xFFFF) := by decide
/-! ### Flags, from sections 1 and 2 of spec/95_test_vectors.md -/

theorem test_flags_add : add8Flags 0x7F 0x01 false = ⟨true, false, true, true, false, false⟩ := by decide

theorem test_flags_add_carry : add8Flags 0xFF 0x01 false = ⟨false, true, true, false, false, true⟩ := by decide

theorem test_flags_sub : sub8Flags 0x80 0x01 false = ⟨false, false, true, true, true, false⟩ := by decide

theorem test_flags_inc : inc8Flags 0x7F ⟨false, false, false, false, true, true⟩ = ⟨true, false, true, true, false, true⟩ := by
  decide

theorem test_flags_dec : dec8Flags 0x80 ⟨false, false, false, false, false, false⟩ = ⟨false, false, true, true, true, false⟩ := by
  decide

theorem test_flags_logic : logicFlags 0x00 true = ⟨false, true, true, true, false, false⟩ := by decide

theorem test_flags_neg_80 : negFlags 0x80 = ⟨true, false, false, true, true, true⟩ := by decide

theorem test_flags_neg_00 : negFlags 0x00 = ⟨false, true, false, false, true, false⟩ := by decide

theorem test_flags_neg_01 : negFlags 0x01 = ⟨true, false, true, false, true, true⟩ := by decide

theorem test_flags_ld_a_i : ldAIFlags 0x00 true ⟨false, false, true, false, true, true⟩ = ⟨false, true, false, true, false, true⟩ := by
  decide

theorem test_flags_bit_7 : bitFlags 0x80 7 ⟨false, false, false, false, false, false⟩ = ⟨true, false, true, false, false, false⟩ := by
  decide

theorem test_flags_bit_7_clear : bitFlags 0x7F 7 ⟨true, false, false, false, false, false⟩ = ⟨false, true, true, true, false, false⟩ := by
  decide

theorem test_flags_rld : dataFlags 0x73 ⟨false, false, true, false, true, true⟩ = ⟨false, false, false, false, false, true⟩ := by
  decide

theorem test_flags_shift : shiftFlags 0xC0 true = ⟨true, false, false, true, false, true⟩ := by decide

/-- The 22 rows of the table of `DAA` (S5): flags N, C, H, and `A` before; `A` and C after. -/
def daaVectors : List (Bool × Bool × Bool × Byte × Byte × Bool) :=
  [ (false, false, false, 0x45, 0x45, false), (false, false, false, 0xA5, 0x05, true),
    (false, false, false, 0x3C, 0x42, false), (false, false, false, 0x9A, 0x00, true),
    (false, false, true, 0x12, 0x18, false), (false, false, true, 0xB3, 0x19, true),
    (false, false, true, 0x9A, 0xA0, false), (false, false, true, 0xAA, 0x10, true),
    (false, true, false, 0x25, 0x85, true), (false, true, false, 0x0B, 0x71, true),
    (false, true, true, 0x00, 0x66, true), (true, false, false, 0x9A, 0x34, true),
    (true, false, false, 0x8F, 0x89, false), (true, false, false, 0xA0, 0x40, true),
    (true, false, false, 0x99, 0x99, false), (true, false, true, 0xA9, 0x43, true),
    (true, false, true, 0x09, 0x03, false), (true, false, true, 0x9B, 0x35, true),
    (true, false, true, 0x0F, 0x09, false), (true, true, false, 0x0A, 0xA4, true),
    (true, true, false, 0x00, 0xA0, true), (true, true, true, 0xFF, 0x99, true) ]

theorem test_daa_rows : daaVectors.all (fun v =>
    daaResult v.2.2.2.1 ⟨false, false, v.2.2.1, false, v.1, v.2.1⟩ == v.2.2.2.2.1 &&
      daaCarry v.2.2.2.1 ⟨false, false, v.2.2.1, false, v.1, v.2.1⟩ == v.2.2.2.2.2) = true := by decide

/-! ### Undefined encodings and events (section 2.12 and R444) -/

theorem test_stop_undefined_cb : stops (code [(0x0100, 0xCB), (0x0101, 0x30)]) = some .undefinedCb := by decide

/-- ED 00h is no instruction of the TSK80A (R295). -/
theorem test_stop_trap_tsk80a : stops { plain with mem := [(0, 0xED), (1, 0x00)] } = some .undefinedEd := by decide

/-- E1: the non-maskable interrupt enters at 0066h. -/
theorem test_nmi : ran (withInput { State.reset with pc := 0x1234, sp := 0x0600, iff1 := true } { Boundary.quiet with nmiEdge := true })
    (fun t => (t.pc, t.sp, t.iff1, t.iff2, t.peek 0x05FF, t.peek 0x05FE)) = some (0x0066, 0x05FE, false, true, 0x12, 0x34) := by
  decide

/-- E2: mode 1 enters at 0038h. -/
theorem test_int_mode_1 : ran (withInput { State.reset with pc := 0x1234, sp := 0x0600, iff1 := true, iff2 := true, im := .im1 }
    { Boundary.quiet with int := true }) (fun t => (t.pc, t.iff1, t.peek 0x05FF)) = some (0x0038, false, 0x12) := by
  decide

/-- Mode 2 with the direct vector: `I` and the device's byte. -/
theorem test_int_mode_2 : ran (withInput { State.reset with sp := 0x0600, iff1 := true, im := .im2, ireg := 0x40, sfrDataIn := [0x10] }
    { Boundary.quiet with int := true }) (fun t => t.pc) = some 0x4010 := by decide

/-- Mode 0 with `RST 28h`: `pc` is held, so its value is pushed. -/
theorem test_int_mode_0 : ran (withInput { State.reset with pc := 0x1234, sp := 0x0600, iff1 := true, sfrDataIn := [0xEF] }
    { Boundary.quiet with int := true }) (fun t => (t.pc, t.peek 0x05FE)) = some (0x0028, 0x34) := by decide

/-- Mode 0 with 64h on the TSK80A_D (R456, D17): the processor stops and `pc` is held. -/
theorem test_int_mode_0_breakpoint : ran (withInput { State.reset with pc := 0x1234, iff1 := true, sfrDataIn := [0x64] }
    { Boundary.quiet with int := true }) (fun t => (t.pc, t.debugStopped, t.iff1)) = some (0x1234, true, false) := by decide

/-- After `EI`, the interrupt waits for one more instruction. -/
theorem test_ei_shadow : ran { code [(0x0100, 0x00)] with iff1 := true, eiShadow := true, im := .im1, inputs := [{ Boundary.quiet with int := true }] }
    (fun t => (t.pc, t.eiShadow)) = some (0x0101, false) := by decide

/-- R82, R475: while the bus is granted, another master's byte arrives although the debug host holds the
processor, and although `RST` is asserted. -/
theorem test_master_writes_while_stopped : ran (withInput { State.reset with busGranted := true, debugStopped := true }
    { Boundary.quiet with busWrites := [(0x4000, 0x5A)] }) (fun t => (t.peek 0x4000, t.debugStopped)) = some (0x5A, true) := by
  decide

theorem test_master_writes_before_reset : ran (withInput { State.reset with busGranted := true }
    { Boundary.quiet with rst := true, busWrites := [(0x4000, 0x5A)] }) (fun t => (t.peek 0x4000, t.busGranted)) =
    some (0x5A, false) := by decide

/-- D22: the final byte of a DD CB form carries M1, as the two bytes before the displacement do. -/
theorem test_final_byte_m1 : ran (code [(0x0001, 0x80), (0x0100, 0xDD), (0x0101, 0xCB), (0x0102, 0x01), (0x0103, 0x46)])
    (fun t => t.bus.take 4) = some [.memRead 0x0001 0x80, .fetch 0x0103 0x46, .memRead 0x0102 0x01, .fetch 0x0101 0xCB] := by decide

/-- R92, R94: the same byte read without M1. -/
theorem test_final_byte_operand : ran { code [(0x0001, 0x80), (0x0100, 0xDD), (0x0101, 0xCB), (0x0102, 0x01), (0x0103, 0x46)] with
      platform := { Platform.initial with finalByteM1 := false } }
    (fun t => t.bus.take 2) = some [.memRead 0x0001 0x80, .memRead 0x0103 0x46] := by decide

/-! ### Witnesses: states and operands that meet the hypotheses of each statement, clause by clause -/

theorem witness_LoadRegister :
    (State.reset.platform.variant = .tsk80aD → ¬(Reg8.h = .h ∧ Reg8.l = .h)) ∧
    (plain.platform.variant = .tsk80aD → ¬(Reg8.h = .h ∧ Reg8.h = .h)) := by decide

/-- `IX` = 0 with displacement -1 and `IY` = FFFFh with displacement 127: the wrap both ways. -/
theorem witness_LoadStoreIndexed :
    (0xFFFF : Word) = BitVec.ofInt 16 ((State.reset.idx .ix).toNat + (0xFF : Byte).toInt) ∧
    (0x007E : Word) = BitVec.ofInt 16 (({ State.reset with iy := 0xFFFF }.idx .iy).toNat + (0x7F : Byte).toInt) := by
  decide

/-- The word at FFFFh, whose high byte is at 0000h. -/
def wrapped : State := { State.reset with mem := [(0, 0x12), (0xFFFF, 0x34)], sp := 0xFFFF }

theorem witness_LoadStoreWordDirect : (0x34 : Byte) = wrapped.memIn 0xFFFF ∧
    (0x12 : Byte) = (wrapped.memRead 0xFFFF).memIn (0xFFFF + 1) := by decide

theorem witness_PopLoadsWord : (0x34 : Byte) = wrapped.memIn wrapped.sp ∧
    (0x12 : Byte) = (wrapped.memRead wrapped.sp).memIn (wrapped.sp + 1) := by decide

theorem witness_PopAfterPush : State.reset.kindAt (State.reset.sp - 1) = .ram ∧
    State.reset.kindAt (State.reset.sp - 2) = .ram := by decide

theorem witness_AddExactSum :
    (Alu.add = .add ∧ 0 = 0 ∨ Alu.add = .adc ∧ 0 = State.reset.flags.c.toNat) ∧
    (Alu.adc = .add ∧ 1 = 0 ∨ Alu.adc = .adc ∧
      1 = ({ State.reset with main := { Bank.zero with f := 0x01 } } : State).flags.c.toNat) := by decide

theorem witness_SubtractExactDifference :
    (Alu.sub = .sub ∧ 0 = 0 ∨ Alu.sub = .sbc ∧ 0 = State.reset.flags.c.toNat) ∧
    (Alu.sbc = .sub ∧ 1 = 0 ∨ Alu.sbc = .sbc ∧
      1 = ({ State.reset with main := { Bank.zero with f := 0x01 } } : State).flags.c.toNat) := by decide

theorem witness_AndWithOperand :
    (∀ x d, Source.reg .a ≠ .atXyd x d) ∧ (∀ x d, Source.imm 0xFF ≠ .atXyd x d) ∧ ∀ x d, Source.atHl ≠ .atXyd x d :=
  ⟨by simp, by simp, by simp⟩

theorem witness_OrXorWithOperand :
    (∀ x d, Source.reg .b ≠ .atXyd x d) ∧ (∀ x d, Source.imm 0x00 ≠ .atXyd x d) ∧ ∀ x d, Source.atHl ≠ .atXyd x d :=
  ⟨by simp, by simp, by simp⟩

theorem witness_IndexedArithmetic :
    (0xFF80 : Word) = BitVec.ofInt 16 ((State.reset.idx .iy).toNat + (0x80 : Byte).toInt) := by decide

theorem witness_IncrementDecrementByte : (0x12 : Byte) = wrapped.memIn wrapped.hl := by decide

/-- Every row of the table applies to some flags and Accumulator; the seventh is the irregular one. -/
theorem witness_DecimalAdjustFollowsTable :
    (daaTable.all fun row => row.applies row.n row.c row.h (BitVec.ofNat 8 (16 * row.highTo + row.lowTo))) = true ∧
    DaaRow.applies ⟨false, false, true, 10, 15, 0, 9, 0x06, false⟩
      ({ State.reset with main := { Bank.zero with a := 0x9A, f := 0x10 } } : State).flags.n false true 0x9A = true := by
  decide

theorem witness_NopAndDisableInterrupts :
    exec .di State.reset = .next { State.reset with iff1 := false, iff2 := false } := by rfl

theorem witness_DebugStopInstructions :
    (State.reset.platform.variant = .tsk80aD ∧ State.reset.debugEnable = false) ∧
    (({ State.reset with debugEnable := true } : State).platform.variant = .tsk80aD ∧
      ({ State.reset with debugEnable := true } : State).debugEnable = true) ∧
    plain.platform.variant = .tsk80a := by decide

/-- With F = 00h the conditions NZ, NC, PO, P hold; with F = FFh the other four do. -/
theorem witness_JumpConditionalAndRelative :
    (condTrue .nz State.reset ∧ condTrue .nc State.reset ∧ condTrue .po State.reset ∧ condTrue .p State.reset) ∧
    (¬condTrue .z State.reset ∧ ¬condTrue .c State.reset ∧ ¬condTrue .pe State.reset ∧ ¬condTrue .m State.reset) ∧
    condTrue (wideCond .nz) State.reset ∧ ¬condTrue (wideCond .c) State.reset :=
  ⟨⟨rfl, rfl, rfl, rfl⟩, ⟨nofun, nofun, nofun, nofun⟩, rfl, nofun⟩

theorem witness_CallAndRestart :
    condTrue .nz State.reset ∧ ¬condTrue .z State.reset ∧
    [BusEvent.memWrite 0xFFFF (hi State.reset.pc), .memWrite 0xFFFE (lo State.reset.pc)] =
      [.memWrite (State.reset.sp - 1) (hi State.reset.pc), .memWrite (State.reset.sp - 2) (lo State.reset.pc)] := by
  refine ⟨rfl, ?_, rfl⟩
  unfold condTrue
  decide

theorem witness_Returns :
    (0x34 : Byte) = wrapped.memIn wrapped.sp ∧ (0x12 : Byte) = (wrapped.memRead wrapped.sp).memIn (wrapped.sp + 1) ∧
    condTrue .po wrapped ∧ ¬condTrue .pe wrapped := by
  refine ⟨rfl, rfl, rfl, ?_⟩
  unfold condTrue
  decide

theorem witness_RotateAccumulator :
    (Instr.rra, Rot.rr) ∈ [(Instr.rlca, Rot.rlc), (.rla, .rl), (.rrca, .rrc), (.rra, .rr)] ∧
    (Instr.rlca, Rot.rlc) ∈ [(Instr.rlca, Rot.rlc), (.rla, .rl), (.rrca, .rrc), (.rra, .rr)] := by decide

theorem witness_IndexedBitOperations :
    (0xFFFF : Word) = BitVec.ofInt 16 ((wrapped.idx .ix).toNat + (0xFF : Byte).toInt) ∧
    (0x34 : Byte) = wrapped.memIn 0xFFFF := by decide

theorem witness_DigitRotates : (0x12 : Byte) = wrapped.memIn wrapped.hl := by decide

theorem witness_BitTest : (0x12 : Byte) = wrapped.memIn wrapped.hl := by decide

theorem witness_SetResetBit : (0x12 : Byte) = wrapped.memIn wrapped.hl := by decide

theorem witness_PortThroughC :
    (0x70 : Byte) = ({ State.reset with sfrDataIn := [0x70] } : State).sfrIn := by decide

/-- The last byte of a block (`B` = 1) and the first of 256 (`B` = 0). -/
theorem witness_BlockInput :
    (Instr.indr, false, true) ∈ [(Instr.ini, true, false), (.inir, true, true), (.ind, false, false), (.indr, false, true)] ∧
    (Instr.ini, true, false) ∈ [(Instr.ini, true, false), (.inir, true, true), (.ind, false, false), (.indr, false, true)] ∧
    (0x70 : Byte) = ({ State.reset with main := { Bank.zero with b := 1 }, sfrDataIn := [0x70] } : State).sfrIn := by decide

theorem witness_BlockOutput :
    (Instr.otir, true, true) ∈ [(Instr.outi, true, false), (.otir, true, true), (.outd, false, false), (.otdr, false, true)] ∧
    (Instr.outd, false, false) ∈ [(Instr.outi, true, false), (.otir, true, true), (.outd, false, false), (.otdr, false, true)] ∧
    (0x12 : Byte) = wrapped.memIn wrapped.hl := by decide

theorem witness_ExchangeStackTop : (0x34 : Byte) = wrapped.memIn wrapped.sp ∧
    (0x12 : Byte) = (wrapped.memRead wrapped.sp).memIn (wrapped.sp + 1) := by decide

/-- A block whose counter is at its last pass (`BC` = 1) and at its first of 65536 (`BC` = 0). -/
theorem witness_BlockTransfer :
    (Instr.lddr, false, true) ∈ [(Instr.ldi, true, false), (.ldir, true, true), (.ldd, false, false), (.lddr, false, true)] ∧
    (Instr.ldi, true, false) ∈ [(Instr.ldi, true, false), (.ldir, true, true), (.ldd, false, false), (.lddr, false, true)] ∧
    (0x12 : Byte) = wrapped.memIn wrapped.hl ∧ wrapped.bc.toNat ≠ 1 ∧
    ({ wrapped with main := { Bank.zero with c := 1 } } : State).bc.toNat = 1 := by decide

theorem witness_BlockSearch :
    (Instr.cpir, true, true) ∈ [(Instr.cpi, true, false), (.cpir, true, true), (.cpd, false, false), (.cpdr, false, true)] ∧
    (Instr.cpd, false, false) ∈ [(Instr.cpi, true, false), (.cpir, true, true), (.cpd, false, false), (.cpdr, false, true)] ∧
    (0x12 : Byte) = wrapped.memIn wrapped.hl ∧ wrapped.main.a ≠ 0x12 ∧
    ({ wrapped with main := { Bank.zero with a := 0x12 } } : State).main.a = 0x12 := by decide

/-- A boundary at which no event of R444 before the interrupts happens, on either family member. -/
theorem reset_reachesInterrupts : State.reset.reachesInterrupts := ⟨rfl, rfl, rfl, fun _ => ⟨rfl, rfl⟩⟩

/-- A latched edge, and an edge seen at this boundary, with the stack in RAM. -/
theorem witness_NonMaskableEntryAndReturn :
    (({ State.reset with nmiPending := true } : State).reachesInterrupts ∧
      ({ State.reset with nmiPending := true } : State).nmiPending = true) ∧
    ((withInput plain { Boundary.quiet with nmiEdge := true }).reachesInterrupts ∧
      (withInput plain { Boundary.quiet with nmiEdge := true }).boundary.nmiEdge = true) ∧
    State.reset.kindAt (State.reset.sp - 1) = .ram ∧ State.reset.kindAt (State.reset.sp - 2) = .ram ∧
    (0x34 : Byte) = wrapped.memIn wrapped.sp ∧ (0x12 : Byte) = (wrapped.memRead wrapped.sp).memIn (wrapped.sp + 1) :=
  ⟨⟨⟨rfl, rfl, rfl, fun _ => ⟨rfl, rfl⟩⟩, rfl⟩, ⟨⟨rfl, rfl, rfl, fun _ => ⟨rfl, rfl⟩⟩, rfl⟩, rfl, rfl, rfl, rfl⟩

/-- A state whose next boundary accepts a maskable interrupt in the given mode. -/
def asking (m : IntMode) : State :=
  withInput { State.reset with iff1 := true, im := m, sfrDataIn := [0xEF] } { Boundary.quiet with int := true }

theorem asking_acceptsInt (m : IntMode) : (asking m).acceptsInt :=
  ⟨⟨rfl, rfl, rfl, fun _ => ⟨rfl, rfl⟩⟩, rfl, rfl, rfl, rfl, rfl⟩

/-- The same with the indirect reading of mode 2. -/
def askingIndirect : State :=
  { asking .im2 with platform := { Platform.initial with im2Vector := .indirect } }

theorem witness_MaskableInterruptEntry :
    ((asking .im1).acceptsInt ∧ (0xEF : Byte) = (asking .im1).sfrIn ∧ (asking .im1).im ≠ .im0 ∧ (asking .im1).im = .im1) ∧
    ((asking .im2).acceptsInt ∧ (asking .im2).im = .im2 ∧ (asking .im2).platform.im2Vector = .direct) ∧
    (askingIndirect.acceptsInt ∧ askingIndirect.im = .im2 ∧ askingIndirect.platform.im2Vector = .indirect ∧
      holdsData (askingIndirect.kindAt (join askingIndirect.ireg 0xFF)) = true) :=
  ⟨⟨asking_acceptsInt _, rfl, by decide, rfl⟩, ⟨asking_acceptsInt _, rfl, rfl⟩,
    ⟨⟨⟨rfl, rfl, rfl, fun _ => ⟨rfl, rfl⟩⟩, rfl, rfl, rfl, rfl, rfl⟩, rfl, rfl, rfl⟩⟩

/-- The same with 64h from the device of a TSK80A_D. -/
def askingBreakpoint : State := { asking .im0 with sfrDataIn := [0x64] }

/-- A one-byte instruction, a restart, the first byte of a longer instruction, and 64h on the TSK80A_D. -/
theorem witness_Mode0RunsDeviceInstruction :
    ((asking .im0).acceptsInt ∧ (asking .im0).im = .im0 ∧ (0xEF : Byte) = (asking .im0).sfrIn) ∧
    (wellFormed (asking .im0).platform.variant (.rstP 0x28) = true ∧ encode (.rstP 0x28) = 0xEF :: [] ∧
      Instr.rstP 0x28 ≠ .breakpoint64) ∧
    (wellFormed .tsk80aD .nop = true ∧ encode .nop = 0x00 :: []) ∧
    (wellFormed .tsk80aD (.jpNn 0x1234) = true ∧ encode (.jpNn 0x1234) = 0xC3 :: [0x34, 0x12] ∧
      [(0x34 : Byte), 0x12] ≠ []) ∧
    (askingBreakpoint.acceptsInt ∧ askingBreakpoint.im = .im0 ∧ (0x64 : Byte) = askingBreakpoint.sfrIn ∧
      askingBreakpoint.platform.variant = .tsk80aD) :=
  ⟨⟨asking_acceptsInt _, rfl, rfl⟩, by decide, by decide, by decide,
    ⟨⟨rfl, rfl, rfl, fun _ => ⟨rfl, rfl⟩⟩, rfl, rfl, rfl, rfl, rfl⟩, rfl, rfl, rfl⟩

/-- The bus granted, and another master that writes FFFFh twice. -/
def lent : State :=
  withInput { State.reset with busGranted := true } { Boundary.quiet with busWrites := [(0xFFFF, 0x01), (0xFFFF, 0x5A)] }

/-- A granted bus with a byte written, a bus request, and a halted processor: with no interrupt asked for, and
with one that waits for the instruction after `EI`. -/
theorem witness_BusGrantAndHaltIdle :
    (plain.boundary.rst = false ∧ (plain.platform.variant = .tsk80aD → plain.debugStopped = false ∧
      plain.boundary.debugStopRequest = false)) ∧
    (lent.boundary.rst = false ∧ lent.busGranted = true ∧
      lent.boundary.busWrites = [(0xFFFF, 0x01)] ++ (0xFFFF, 0x5A) :: [] ∧ lent.kindAt 0xFFFF = .ram ∧
      ∀ w ∈ lent.boundary.busWrites, w.1 ≠ 0) ∧
    ((withInput State.reset { Boundary.quiet with req := true }).busGranted = false ∧
      (withInput State.reset { Boundary.quiet with req := true }).boundary.req = true) ∧
    (({ State.reset with halted := true } : State).boundary.req = false ∧
      ({ State.reset with halted := true } : State).boundary.int = false ∧
      ({ State.reset with halted := true } : State).halted = true) ∧
    ((withInput { State.reset with halted := true, eiShadow := true } { Boundary.quiet with int := true }).eiShadow = true ∧
      (withInput { State.reset with halted := true, eiShadow := true } { Boundary.quiet with int := true }).halted = true) :=
  ⟨by decide, ⟨rfl, rfl, rfl, rfl, by simp [lent, withInput, State.boundary]⟩, ⟨rfl, rfl⟩, ⟨rfl, rfl, rfl⟩, rfl, rfl⟩

/-- A stopped TSK80A_D whose host has the given command. -/
def hosted (c : HostCmd) : State :=
  withInput { State.reset with debugStopped := true, mem := [(0, 0x00)] } { Boundary.quiet with host := c }

theorem witness_DebugHostTurns :
    ((withInput State.reset { Boundary.quiet with debugStopRequest := true }).debugStopped = false ∧
      (withInput State.reset { Boundary.quiet with debugStopRequest := true }).boundary.debugStopRequest = true) ∧
    (∀ c : HostCmd, (hosted c).platform.variant = .tsk80aD ∧ (hosted c).boundary.rst = false ∧
      (hosted c).debugStopped = true ∧ (hosted c).boundary.host = c) ∧
    ran { hosted .singleStep with debugStopped := false } (fun t => t.pc) = some 1 :=
  ⟨by decide, fun _ => ⟨rfl, rfl, rfl, rfl⟩, by decide⟩

theorem witness_ResetLeavesZero :
    (withInput { State.reset with pc := 0x1234 } { Boundary.quiet with rst := true }).boundary.rst = true ∧
    (withInput plain { Boundary.quiet with rst := true }).boundary.rst = true ∧
    State.reset.platform.variant = .tsk80aD ∧ plain.platform.variant = .tsk80a := by decide

/-- All of memory ROM. -/
def romOnly : State := { State.reset with platform := { Platform.initial with memMap := [⟨0, 65536, .rom⟩] } }

theorem witness_MemoryReadAfterWrite :
    State.reset.kindAt 0xFFFF = .ram ∧ romOnly.kindAt 0xFFFF ≠ .ram ∧
    (State.reset.kindAt 0 = .ram ∨ State.reset.kindAt 0 = .rom) ∧ (romOnly.kindAt 0 = .ram ∨ romOnly.kindAt 0 = .rom) ∧
    (0xFFFF : Word) ≠ 0 ∧ Memory.wf State.reset.mem = true ∧ Memory.wf wrapped.mem = true := by decide

theorem witness_DecodeOfEncode :
    wellFormed .tsk80a (.rstP 0x38) = true ∧ wellFormed .tsk80a .ldHH = true ∧ wellFormed .tsk80aD .breakpoint64 = true ∧
    wellFormed .tsk80aD .trap = true ∧ wellFormed .tsk80a (.setAtIyd 7 0x80) = true := by decide

theorem witness_StepKeepsInvariant :
    (code [(0x0100, 0x02)]).Inv ∧ ran (code [(0x0100, 0x02)]) (fun t => t.pc) = some 0x0101 :=
  ⟨⟨rfl, fun h => by cases h⟩, by decide⟩

/-- A four-byte instruction at FFFEh, and a one-byte instruction: the longest and the shortest. -/
theorem witness_StepRunsDecodedInstruction :
    ∃ s : State, s.undisturbed ∧
      [(0xDD : Byte), 0xCB, 0x7F, 0xFE] = [s.peek s.pc, s.peek (s.pc + 1), s.peek (s.pc + 2), s.peek (s.pc + 3)] ∧
      (∀ k : Nat, k < 4 → holdsData (s.kindAt (s.pc + BitVec.ofNat 16 k)) = true) ∧
      decode s.platform.variant [0xDD, 0xCB, 0x7F, 0xFE] = .ok (.setAtIxd 7 0x7F, []) ∧
      decode s.platform.variant [0x00, 0xCB, 0x7F, 0xFE] = .ok (.nop, [0xCB, 0x7F, 0xFE]) :=
  ⟨{ State.reset with pc := 0xFFFE, mem := [(0, 0x7F), (1, 0xFE), (0xFFFE, 0xDD), (0xFFFF, 0xCB)] },
    ⟨⟨rfl, rfl, rfl, fun _ => ⟨rfl, rfl⟩⟩, rfl, rfl, rfl, .inl rfl⟩, by decide, fun k _ => rfl, rfl, rfl⟩

/-- An undefined encoding of each map, at `pc` = FFFEh as above. -/
theorem witness_StepRunsDecodedInstruction_undefined :
    ∃ s : State, s.undisturbed ∧
      [(0xFD : Byte), 0xCB, 0x00, 0x36] = [s.peek s.pc, s.peek (s.pc + 1), s.peek (s.pc + 2), s.peek (s.pc + 3)] ∧
      (∀ k : Nat, k < 4 → holdsData (s.kindAt (s.pc + BitVec.ofNat 16 k)) = true) ∧
      decode s.platform.variant [0xFD, 0xCB, 0x00, 0x36] = .error .undefinedIndexedCb ∧
      decode s.platform.variant [0xCB, 0x30, 0, 0] = .error .undefinedCb ∧
      decode s.platform.variant [0xED, 0x4F, 0, 0] = .error .undefinedEd ∧
      decode s.platform.variant [0xDD, 0x24, 0, 0] = .error .undefinedIndexed :=
  ⟨{ State.reset with pc := 0xFFFE, mem := [(0, 0x00), (1, 0x36), (0xFFFE, 0xFD), (0xFFFF, 0xCB)] },
    ⟨⟨rfl, rfl, rfl, fun _ => ⟨rfl, rfl⟩⟩, rfl, rfl, rfl, .inl rfl⟩, by decide, fun k _ => rfl, rfl, rfl, rfl, rfl⟩

theorem witness_EveryInstructionCompletes :
    (Instr.nop = .trap → plain.platform.variant = .tsk80aD) ∧
    (Instr.trap = .trap → State.reset.platform.variant = .tsk80aD) := by decide

theorem witness_OnlyNamedInstructionsWriteControlState :
    exec .ldIA State.reset = .next { State.reset with ireg := 0 } ∧
    exec .nop State.reset = .next State.reset := ⟨rfl, rfl⟩

end Sys2Proof.Tests
end

section
/-! Proofs for the family 40_arith8.md: `INC` and `DEC` of a byte. First what the two shared operations
`changeReg` and `changeMem` do, whole; then `inc8` and `dec8` in the words of the statement; then the encodings. -/

namespace Sys2Proof.Machine

/-! ### A register or a memory byte replaced by a value computed from it -/

@[simp] theorem changeReg_reg (s : State) (r : Reg8) (v : Byte) (fl : Flags) :
    (s.changeReg r v fl).reg r = v := (putFlags_reg _ fl r).trans (setReg_reg s r v)

@[simp] theorem changeReg_flags (s : State) (r : Reg8) (v : Byte) (fl : Flags) :
    (s.changeReg r v fl).flags = fl := putFlags_flags _ fl

@[simp] theorem changeMem_flags (s : State) (a : Word) (v : Byte) (fl : Flags) :
    (s.changeMem a v fl).flags = fl := putFlags_flags _ fl

theorem only_changeReg (s : State) (r : Reg8) (v : Byte) (fl : Flags) :
    OnlyRegs [nameOf r, .f] s (s.changeReg r v fl) :=
  (only_setReg s r v).trans (only_putFlags _ fl) (by simp) (by simp)

/-- One read, then one write at the same address (20_memory.md R65). -/
theorem only_changeMem (s : State) (a : Word) (v : Byte) (fl : Flags) :
    OnlyStores [.f] a v [.memRead a (s.memIn a), .memWrite a v] s (s.changeMem a v fl) :=
  have hstore := OnlyStores.after (only_memRead s a) (only_memWrite _ a v) (List.Subset.refl [])
    (List.Subset.refl [])
  hstore.before (only_putFlags _ fl) (by simp) (by simp)

/-! ### `inc8` and `dec8` (40_arith8.md R132, R133) -/

theorem toNat_inc8 (v : Byte) : (inc8 v).toNat = (v.toNat + 1) % 256 := BitVec.toNat_add v 1

theorem toNat_dec8 (v : Byte) : (dec8 v).toNat = (v.toNat + 255) % 256 :=
  (BitVec.toNat_sub v 1).trans (congrArg (· % 256) (Nat.add_comm 255 v.toNat))

theorem inc8_eq_zero_iff (v : Byte) : inc8 v = 0 ↔ v = 0xFF := by
  change v + 1 = 0 ↔ v = 0xFF
  bv_omega

theorem dec8_eq_zero_iff (v : Byte) : dec8 v = 0 ↔ v = 1 := by
  change v - 1 = 0 ↔ v = 1
  bv_omega

/-- The flags of `inc8`, each condition on the bytes themselves. -/
theorem inc8Flags_eq (v : Byte) (old : Flags) :
    inc8Flags v old = { s := (inc8 v).getLsbD 7, z := decide (inc8 v = 0), h := decide (v.toNat % 16 = 15), pv := decide (v = 0x7F), n := false, c := old.c } := rfl

/-- The flags of `dec8`, each condition on the bytes themselves. -/
theorem dec8Flags_eq (v : Byte) (old : Flags) :
    dec8Flags v old = { s := (dec8 v).getLsbD 7, z := decide (dec8 v = 0), h := decide (v.toNat % 16 = 0), pv := decide (v = 0x80), n := true, c := old.c } := rfl

/-- An equation of bytes is one of numbers. -/
theorem decide_byte_eq (v w : Byte) : decide (v = w) = decide (v.toNat = w.toNat) :=
  decide_eq_decide.2 BitVec.toNat_inj.symm

/-! ### Encodings (30_encoding.md) -/

theorem encodedAs_incR (v : Variant) (r : Reg8) : EncodedAs v (Form.incR r) [0x04 ||| regCode r <<< 3] := by
  cases v <;> cases r <;> exact ⟨rfl, fun _ => rfl⟩

theorem encodedAs_decR (v : Variant) (r : Reg8) : EncodedAs v (Form.decR r) [0x05 ||| regCode r <<< 3] := by
  cases v <;> cases r <;> exact ⟨rfl, fun _ => rfl⟩

theorem encodedAs_incAtHl (v : Variant) : EncodedAs v .incAtHl [0x34] := by
  cases v <;> exact ⟨rfl, fun _ => rfl⟩

theorem encodedAs_decAtHl (v : Variant) : EncodedAs v .decAtHl [0x35] := by
  cases v <;> exact ⟨rfl, fun _ => rfl⟩

/-! ### The obligation -/

/-- Settles O17: each form is `changeReg` or `changeMem` with `inc8` or `dec8`, so the frame is that of the
shared operation and the flags are those of the computation. -/
theorem incrementDecrementByte : Obligations.IncrementDecrementByte := by
  unfold Obligations.IncrementDecrementByte
  refine ⟨fun v r => ⟨encodedAs_incR v r, encodedAs_decR v r⟩,
    fun v => ⟨encodedAs_incAtHl v, encodedAs_decAtHl v⟩, fun r s => ?_, fun r s => ?_, fun s v hv => ?_⟩
  · refine ⟨_, exec_incR r s, ?_, ?_, only_changeReg s r _ _⟩
    · rw [changeReg_reg, toNat_inc8]
    · rw [changeReg_flags, changeReg_reg, inc8Flags_eq, decide_byte_eq (inc8 _), decide_byte_eq (s.reg r)]
      rfl
  · refine ⟨_, exec_decR r s, ?_, ?_, only_changeReg s r _ _⟩
    · rw [changeReg_reg, toNat_dec8]
    · rw [changeReg_flags, changeReg_reg, dec8Flags_eq, decide_byte_eq (dec8 _), decide_byte_eq (s.reg r)]
      rfl
  · subst hv
    refine ⟨⟨_, exec_incAtHl s, ?_, only_changeMem s s.hl _ _⟩, _, exec_decAtHl s, ?_, only_changeMem s s.hl _ _⟩
    · rw [changeMem_flags, inc8Flags_eq, decide_eq_decide.2 (inc8_eq_zero_iff _)]
      rfl
    · rw [changeMem_flags, dec8Flags_eq, decide_eq_decide.2 (dec8_eq_zero_iff _)]
      rfl

end Sys2Proof.Machine
end

section
/-! Proofs for the family 41_arith16.md: `ADD` into `HL`, `IX` and `IY`, and `INC` and `DEC` of a pair. First what
`add16` and a step by one give as numbers; then what the destination holds after the flags are put; then the
encodings. -/

namespace Sys2Proof.Machine

/-! ### The results as numbers (41_arith16.md R172, R178, R180) -/

theorem toNat_add16 (a b : Word) : (add16 a b).toNat = (a.toNat + b.toNat) % 65536 := BitVec.toNat_ofNat _ 16

theorem toNat_word_add_one (w : Word) : (w + 1).toNat = (w.toNat + 1) % 65536 := BitVec.toNat_add w 1

theorem toNat_word_sub_one (w : Word) : (w - 1).toNat = (w.toNat + 65535) % 65536 :=
  (BitVec.toNat_sub w 1).trans (congrArg (· % 65536) (Nat.add_comm 65535 w.toNat))

/-- The six flags of `add16`, each written out: S, Z and P/V are the old ones (R172). -/
theorem add16Flags_eq (a b : Word) (old : Flags) :
    add16Flags a b old = { s := old.s, z := old.z, h := decide (4095 < a.toNat % 4096 + b.toNat % 4096), pv := old.pv, n := false, c := decide (65535 < a.toNat + b.toNat) } := rfl

/-! ### A 16-bit destination and the flags -/

@[simp] theorem setHl_hl (s : State) (w : Word) : (s.setHl w).hl = w := setPair_pair s .hl w

@[simp] theorem putFlags_hl (s : State) (fl : Flags) : (s.putFlags fl).hl = s.hl := rfl

@[simp] theorem putFlags_idx (s : State) (fl : Flags) (x : Idx) : (s.putFlags fl).idx x = s.idx x := by
  cases x <;> rfl

theorem only_setHl_putFlags (s : State) (w : Word) (fl : Flags) :
    OnlyRegs [.h, .l, .f] s ((s.setHl w).putFlags fl) :=
  (only_setHl s w).trans (only_putFlags _ fl) (by simp) (by simp)

theorem only_setIdx_putFlags (s : State) (x : Idx) (w : Word) (fl : Flags) :
    OnlyRegs [idxName x, .f] s ((s.setIdx x w).putFlags fl) :=
  (only_setIdx s x w).trans (only_putFlags _ fl) (by simp) (by simp)

/-! ### Encodings (30_encoding.md) -/

theorem encodedAs_addHlPp (v : Variant) (p : Pair) : EncodedAs v (.addHlPp p) [0x09 ||| p.code <<< 4] := by
  cases v <;> cases p <;> exact ⟨rfl, fun _ => rfl⟩

theorem encodedAs_addXyPp (v : Variant) (x : Idx) (p : PairX) :
    EncodedAs v (Form.addXyPp x p) [prefixByte x, 0x09 ||| p.code <<< 4] := by
  cases v <;> cases x <;> cases p <;> exact ⟨rfl, fun _ => rfl⟩

theorem encodedAs_incPp (v : Variant) (p : Pair) : EncodedAs v (.incPp p) [0x03 ||| p.code <<< 4] := by
  cases v <;> cases p <;> exact ⟨rfl, fun _ => rfl⟩

theorem encodedAs_decPp (v : Variant) (p : Pair) : EncodedAs v (.decPp p) [0x0B ||| p.code <<< 4] := by
  cases v <;> cases p <;> exact ⟨rfl, fun _ => rfl⟩

theorem encodedAs_incXy (v : Variant) (x : Idx) : EncodedAs v (Form.incXy x) [prefixByte x, 0x23] := by
  cases v <;> cases x <;> exact ⟨rfl, fun _ => rfl⟩

theorem encodedAs_decXy (v : Variant) (x : Idx) : EncodedAs v (Form.decXy x) [prefixByte x, 0x2B] := by
  cases v <;> cases x <;> exact ⟨rfl, fun _ => rfl⟩

/-! ### The obligations -/

/-- Settles O18: both forms write `add16` to the destination and then `add16Flags` to F, so the sum, the flags
and the frame are each read off one operation. -/
theorem addPair : Obligations.AddPair := by
  unfold Obligations.AddPair
  refine ⟨encodedAs_addHlPp, encodedAs_addXyPp, fun p s => ?_, fun x p s => ?_⟩
  · refine ⟨_, exec_addHlPp p s, ?_, ?_, only_setHl_putFlags s _ _⟩
    · rw [putFlags_hl, setHl_hl, toNat_add16]
    · rw [putFlags_flags, add16Flags_eq]
  · refine ⟨_, exec_addXyPp x p s, ?_, ?_, only_setIdx_putFlags s x _ _⟩
    · rw [putFlags_idx, setIdx_idx, toNat_add16]
    · rw [putFlags_flags, add16Flags_eq]

/-- Settles O20: each form writes one pair or index register and nothing else, F included; the number written is
the old one plus 1, or plus 65535, modulo 65536. -/
theorem incrementDecrementPair : Obligations.IncrementDecrementPair := by
  unfold Obligations.IncrementDecrementPair
  refine ⟨fun v p => ⟨encodedAs_incPp v p, encodedAs_decPp v p⟩,
    fun v x => ⟨encodedAs_incXy v x, encodedAs_decXy v x⟩, fun p s => ?_, fun p s => ?_, fun x s => ?_,
    fun x s => ?_⟩
  · refine ⟨_, exec_incPp p s, ?_, only_setPair s p _⟩
    rw [setPair_pair, toNat_word_add_one]
  · refine ⟨_, exec_decPp p s, ?_, only_setPair s p _⟩
    rw [setPair_pair, toNat_word_sub_one]
  · refine ⟨_, exec_incXy x s, ?_, only_setIdx s x _⟩
    rw [setIdx_idx, toNat_word_add_one]
  · refine ⟨_, exec_decXy x s, ?_, only_setIdx s x _⟩
    rw [setIdx_idx, toNat_word_sub_one]

end Sys2Proof.Machine
end

section
/-! Proofs for the family 42_logic.md: `AND`, `OR` and `XOR`. First the operation `alu` that the whole 8-bit group
shares, in the words of `Source`; then the flags of a logical result; then the encodings of the group. -/

namespace Sys2Proof.Machine

/-! ### The 8-bit group on a byte variable (40_arith8.md R134) -/

/-- Where the byte of a byte variable is, its address taken from `s`. -/
def Source.operand (src : Source) (s : State) : Operand :=
  match src with
  | .reg r => .reg r
  | .imm n => .imm n
  | .atHl => .mem s.hl
  | .atXyd x d => .mem (s.ea x d)

@[simp] theorem operand_eq_value (src : Source) (s : State) : s.operand (src.operand s) = src.value s := by
  cases src <;> rfl

theorem exec_aluInstr (op : Alu) (src : Source) (s : State) :
    exec (aluInstr op src) s = .next (s.alu op (src.operand s)) := by
  cases src with
  | reg r => exact exec_aluR op r s
  | imm n => exact exec_aluN op n s
  | atHl => exact exec_aluAtHl op s
  | atXyd x d => exact exec_aluAtXyd op x d s

@[simp] theorem alu_a (s : State) (op : Alu) (o : Operand) :
    (s.alu op o).main.a = aluResult op s.main.a (s.operand o) s.flags.c := rfl

@[simp] theorem alu_flags (s : State) (op : Alu) (o : Operand) :
    (s.alu op o).flags = aluFlags op s.main.a (s.operand o) s.flags.c := putFlags_flags _ _

/-- Reading a byte variable makes the accesses of that variable and changes no register. -/
theorem only_operandRead (src : Source) (s : State) :
    OnlyReads [] (src.accesses s) s (s.operandRead (src.operand s)) := by
  cases src with
  | reg r => exact OnlyReads.refl s
  | imm n => exact OnlyReads.refl s
  | atHl => exact only_memRead s s.hl
  | atXyd x d => exact only_memRead s (s.ea x d)

theorem only_alu (op : Alu) (src : Source) (s : State) :
    OnlyReads [.a, .f] (src.accesses s) s (s.alu op (src.operand s)) := by
  have hresult : OnlyReads [.a, .f] [] (s.operandRead (src.operand s)) (s.alu op (src.operand s)) :=
    only_changeReg _ .a _ _
  simpa using (only_operandRead src s).trans hresult (List.nil_subset _) (List.Subset.refl _)

/-! ### The flags of a logical result (42_logic.md R190) -/

/-- Counting modulo 2 is exclusive or: each element that is counted turns the answer round. -/
theorem countP_even_eq_xor {α : Type} (p : α → Bool) (l : List α) :
    (l.countP p % 2 == 0) = !(l.foldr (fun k odd => p k ^^ odd) false) := by
  induction l with
  | nil => rfl
  | cons k l ih =>
    have hsucc : ∀ n : Nat, ((n + 1) % 2 == 0) = !(n % 2 == 0) := fun n => by
      rcases Nat.mod_two_eq_zero_or_one n with h | h <;> simp [Nat.add_mod, h]
    cases hk : p k <;> simp [hk, hsucc, ih]

theorem parityEven_eq_evenOnes (v : Byte) : parityEven v = evenOnes v := by
  rw [evenOnes, countP_even_eq_xor]
  simp [parityEven, List.range_succ]

/-- The six flags of a logical result, each as a property of that byte. -/
theorem logicFlags_eq (r : Byte) (h : Bool) :
    logicFlags r h = { s := r.getLsbD 7, z := decide (r.toNat = 0), h := h, pv := evenOnes r, n := false, c := false } := by
  have hz : (r == 0) = decide (r.toNat = 0) := decide_byte_eq r 0
  rw [logicFlags, parityEven_eq_evenOnes, hz]
  rfl

/-- An operation of the group that writes logic flags, on any byte variable: `A`, all six flags and the frame. -/
theorem exec_aluInstr_logic {op : Alu} {h : Bool} (src : Source) (s : State)
    (hlogic : ∀ (a v : Byte) (cy : Bool), aluFlags op a v cy = logicFlags (aluResult op a v cy) h) :
    ∃ t : State, exec (aluInstr op src) s = .next t ∧
      t.main.a = aluResult op s.main.a (src.value s) s.flags.c ∧
      t.flags = { s := t.main.a.getLsbD 7, z := decide (t.main.a.toNat = 0), h := h, pv := evenOnes t.main.a, n := false, c := false } ∧
      OnlyReads [.a, .f] (src.accesses s) s t := by
  refine ⟨_, exec_aluInstr op src s, ?_, ?_, only_alu op src s⟩
  · rw [alu_a, operand_eq_value]
  · rw [alu_flags, alu_a, hlogic, logicFlags_eq]

/-! ### Encodings (30_encoding.md R106, R109) -/

theorem encodedAs_aluInstr (v : Variant) (op : Alu) (src : Source) :
    EncodedAs v (aluInstr op src) (aluBytes op src) := by
  cases src with
  | reg r => cases v <;> cases op <;> cases r <;> exact ⟨rfl, fun _ => rfl⟩
  | imm n => cases v <;> cases op <;> exact ⟨rfl, fun _ => rfl⟩
  | atHl => cases v <;> cases op <;> exact ⟨rfl, fun _ => rfl⟩
  | atXyd x d => cases v <;> cases op <;> cases x <;> exact ⟨rfl, fun _ => rfl⟩

/-! ### The obligations -/

/-- Settles O14: `AND` writes logic flags with H set, and its result is the AND of the bits. -/
theorem andWithOperand : Obligations.AndWithOperand := by
  unfold Obligations.AndWithOperand
  refine fun src s _ => ⟨fun v => encodedAs_aluInstr v .and src, ?_⟩
  obtain ⟨t, hexec, ha, hflags, hframe⟩ := exec_aluInstr_logic (op := .and) src s (fun _ _ _ => rfl)
  exact ⟨t, hexec, fun k => ha ▸ BitVec.getLsbD_and, hflags, hframe⟩

/-- Settles O15: `OR` and `XOR` write logic flags with H clear, and their results are the OR and the exclusive OR
of the bits. -/
theorem orXorWithOperand : Obligations.OrXorWithOperand := by
  unfold Obligations.OrXorWithOperand
  refine fun src s _ => ⟨fun v => ⟨encodedAs_aluInstr v .or src, encodedAs_aluInstr v .xor src⟩, ?_, ?_⟩
  · obtain ⟨t, hexec, ha, hflags, hframe⟩ := exec_aluInstr_logic (op := .or) src s (fun _ _ _ => rfl)
    exact ⟨t, hexec, fun k => ha ▸ BitVec.getLsbD_or, hflags, hframe⟩
  · obtain ⟨t, hexec, ha, hflags, hframe⟩ := exec_aluInstr_logic (op := .xor) src s (fun _ _ _ => rfl)
    exact ⟨t, hexec, fun k => ha ▸ BitVec.getLsbD_xor, hflags, hframe⟩

end Sys2Proof.Machine
end

section
/-! Proofs for the family 43_load8.md: the loads and stores of one byte in memory, and the loads of `I`. First what
`loadReg` from memory does, whole, and the change of `I`; then the flags of `LD A,I`; then the encodings. -/

namespace Sys2Proof.Machine

/-! ### A register loaded from memory (43_load8.md R222, R229 to R231) -/

@[simp] theorem loadReg_reg (s : State) (r : Reg8) (o : Operand) : (s.loadReg r o).reg r = s.operand o :=
  setReg_reg _ r _

theorem only_loadReg_mem (s : State) (r : Reg8) (a : Word) :
    OnlyReads [nameOf r] [.memRead a (s.memIn a)] s (s.loadReg r (.mem a)) :=
  (only_memRead s a).trans (only_setReg _ r _) (List.nil_subset _) (List.Subset.refl _)

/-- An instruction that is `loadReg` from the address `a` of the old state: the register takes the byte of the one
read, also when `r` is a half of the pair that gave `a`. -/
theorem exec_load_mem {i : Instr} {s : State} {r : Reg8} {a : Word}
    (hexec : exec i s = .next (s.loadReg r (.mem a))) :
    ∃ t : State, exec i s = .next t ∧ t.reg r = s.memIn a ∧
      OnlyReads [nameOf r] [.memRead a (s.memIn a)] s t :=
  ⟨_, hexec, loadReg_reg s r (.mem a), only_loadReg_mem s r a⟩

/-! ### The Interrupt register (43_load8.md R235, R236) -/

theorem only_setIreg (s : State) (v : Byte) : OnlyRegs [.i] s { s with ireg := v } := by
  have hregs : SameRegsBut [.i] s { s with ireg := v } := by
    intro n hn
    cases n with
    | i => exact absurd (List.mem_singleton.2 rfl) hn
    | _ => rfl
  exact onlyReads_of_fields hregs rfl rfl rfl rfl rfl rfl rfl rfl rfl rfl

theorem only_setA_putFlags (s : State) (v : Byte) (fl : Flags) :
    OnlyRegs [.a, .f] s ((s.setA v).putFlags fl) :=
  (only_setA s v).trans (only_putFlags _ fl) (by simp) (by simp)

/-- The six flags of `LD A,I`, each written out. -/
theorem ldAIFlags_eq (v : Byte) (iff2 : Bool) (old : Flags) :
    ldAIFlags v iff2 old = { s := v.getLsbD 7, z := decide (v.toNat = 0), h := false, pv := iff2, n := false, c := old.c } := by
  have hz : (v == 0) = decide (v.toNat = 0) := decide_byte_eq v 0
  rw [ldAIFlags, hz]
  rfl

/-! ### Encodings (30_encoding.md) -/

/-- The last two bytes of an encoding are an operand word, low byte first (30_encoding.md R100): the decoder joins
them, and the halves of `nn` joined are `nn`. -/
theorem encodedAs_imm16 {v : Variant} {f : Word → Instr} (opcode : List Byte) (nn : Word)
    (hencode : encode (f nn) = opcode ++ [lo nn, hi nn])
    (hdecode : ∀ (l h : Byte) (rest : List Byte), decode v (opcode ++ l :: h :: rest) = .ok (f (join h l), rest)) :
    EncodedAs v (f nn) (opcode ++ [lo nn, hi nn]) := by
  refine ⟨hencode, fun rest => ?_⟩
  have hbytes := hdecode (lo nn) (hi nn) rest
  rw [join_hi_lo] at hbytes
  rwa [List.append_assoc]

theorem encodedAs_ldRAtHl (v : Variant) (r : Reg8) : EncodedAs v (Form.ldRAtHl r) [0x46 ||| regCode r <<< 3] := by
  cases v <;> cases r <;> exact ⟨rfl, fun _ => rfl⟩

theorem encodedAs_ldAAtBc (v : Variant) : EncodedAs v .ldAAtBc [0x0A] := by
  cases v <;> exact ⟨rfl, fun _ => rfl⟩

theorem encodedAs_ldAAtDe (v : Variant) : EncodedAs v .ldAAtDe [0x1A] := by
  cases v <;> exact ⟨rfl, fun _ => rfl⟩

theorem encodedAs_ldAAtNn (v : Variant) (nn : Word) : EncodedAs v (.ldAAtNn nn) [0x3A, lo nn, hi nn] :=
  encodedAs_imm16 [0x3A] nn rfl (by cases v <;> exact fun _ _ _ => rfl)

theorem encodedAs_ldAtHlR (v : Variant) (r : Reg8) : EncodedAs v (Form.ldAtHlR r) [0x70 ||| regCode r] := by
  cases v <;> cases r <;> exact ⟨rfl, fun _ => rfl⟩

theorem encodedAs_ldAtHlN (v : Variant) (n : Byte) : EncodedAs v (.ldAtHlN n) [0x36, n] := by
  cases v <;> exact ⟨rfl, fun _ => rfl⟩

theorem encodedAs_ldAtBcA (v : Variant) : EncodedAs v .ldAtBcA [0x02] := by
  cases v <;> exact ⟨rfl, fun _ => rfl⟩

theorem encodedAs_ldAtDeA (v : Variant) : EncodedAs v .ldAtDeA [0x12] := by
  cases v <;> exact ⟨rfl, fun _ => rfl⟩

theorem encodedAs_ldAtNnA (v : Variant) (nn : Word) : EncodedAs v (.ldAtNnA nn) [0x32, lo nn, hi nn] :=
  encodedAs_imm16 [0x32] nn rfl (by cases v <;> exact fun _ _ _ => rfl)

theorem encodedAs_ldAI (v : Variant) : EncodedAs v .ldAI [0xED, 0x57] := by
  cases v <;> exact ⟨rfl, fun _ => rfl⟩

theorem encodedAs_ldIA (v : Variant) : EncodedAs v .ldIA [0xED, 0x47] := by
  cases v <;> exact ⟨rfl, fun _ => rfl⟩

/-! ### The obligations -/

/-- Settles O2: each form is `loadReg` from an address that the old registers or the operand word give. -/
theorem loadRegisterFromMemory : Obligations.LoadRegisterFromMemory := by
  unfold Obligations.LoadRegisterFromMemory
  refine ⟨encodedAs_ldRAtHl, fun v => ⟨encodedAs_ldAAtBc v, encodedAs_ldAAtDe v⟩, encodedAs_ldAAtNn,
    fun r s => ?_, fun s => ?_, fun s => ?_, fun nn s => ?_⟩
  · exact exec_load_mem (exec_ldRAtHl r s)
  · exact exec_load_mem (exec_ldAAtBc s)
  · exact exec_load_mem (exec_ldAAtDe s)
  · exact exec_load_mem (exec_ldAAtNn nn s)

/-- Settles O3: each form is one `memWrite`, whose frame and stored byte are those of the operation. -/
theorem storeToMemory : Obligations.StoreToMemory := by
  unfold Obligations.StoreToMemory
  refine ⟨encodedAs_ldAtHlR, encodedAs_ldAtHlN, fun v => ⟨encodedAs_ldAtBcA v, encodedAs_ldAtDeA v⟩,
    encodedAs_ldAtNnA, fun r s => ?_, fun n s => ?_, fun s => ?_, fun s => ?_, fun nn s => ?_⟩
  · exact ⟨_, exec_ldAtHlR r s, only_memWrite s s.hl (s.reg r)⟩
  · exact ⟨_, exec_ldAtHlN n s, only_memWrite s s.hl n⟩
  · exact ⟨_, exec_ldAtBcA s, only_memWrite s s.bc s.main.a⟩
  · exact ⟨_, exec_ldAtDeA s, only_memWrite s s.de s.main.a⟩
  · exact ⟨_, exec_ldAtNnA nn s, only_memWrite s nn s.main.a⟩

/-- Settles O5: `LD A,I` writes `A` and then the flags of `ldAIFlags`, `LD I,A` writes `I` alone. -/
theorem interruptRegisterLoads : Obligations.InterruptRegisterLoads := by
  unfold Obligations.InterruptRegisterLoads
  refine ⟨fun v => ⟨encodedAs_ldAI v, encodedAs_ldIA v⟩, fun s => ?_, fun s => ?_⟩
  · refine ⟨_, exec_ldAI s, ?_, ?_, only_setA_putFlags s _ _⟩
    · rw [putFlags_main, setA_main]
    · rw [putFlags_flags, ldAIFlags_eq]
  · exact ⟨_, exec_ldIA s, rfl, only_setIreg s s.main.a⟩

end Sys2Proof.Machine
end

section
/-! Proofs for the family 44_load16.md: the 16-bit immediate loads and the loads of `SP`. Each is one `setPair`,
`setIdx` or `setSp`, whose value and frame the laws of the state give; what is new here is the encodings. -/

namespace Sys2Proof.Machine

/-! ### Encodings (30_encoding.md R106, R109) -/

theorem encodedAs_ldPpNn (v : Variant) (p : Pair) (nn : Word) :
    EncodedAs v (.ldPpNn p nn) [0x01 ||| p.code <<< 4, lo nn, hi nn] := by
  refine encodedAs_imm16 [0x01 ||| p.code <<< 4] nn ?_ ?_
  · cases p <;> rfl
  · cases v <;> cases p <;> exact fun _ _ _ => rfl

theorem encodedAs_ldXyNn (v : Variant) (x : Idx) (nn : Word) :
    EncodedAs v (Form.ldXyNn x nn) [prefixByte x, 0x21, lo nn, hi nn] := by
  refine encodedAs_imm16 [prefixByte x, 0x21] nn ?_ ?_
  · cases x <;> rfl
  · cases v <;> cases x <;> exact fun _ _ _ => rfl

theorem encodedAs_ldSpHl (v : Variant) : EncodedAs v .ldSpHl [0xF9] := by
  cases v <;> exact ⟨rfl, fun _ => rfl⟩

theorem encodedAs_ldSpXy (v : Variant) (x : Idx) : EncodedAs v (Form.ldSpXy x) [prefixByte x, 0xF9] := by
  cases v <;> cases x <;> exact ⟨rfl, fun _ => rfl⟩

/-! ### The obligation -/

/-- Settles O6: each form is one write of a 16-bit register, so the value read back and the frame are the two laws
of that write. -/
theorem loadPairs : Obligations.LoadPairs := by
  unfold Obligations.LoadPairs
  refine ⟨encodedAs_ldPpNn, encodedAs_ldXyNn, encodedAs_ldSpHl, encodedAs_ldSpXy, fun p nn s => ?_,
    fun x nn s => ?_, fun s => ?_, fun x s => ?_⟩
  · exact ⟨_, exec_ldPpNn p nn s, setPair_pair s p nn, only_setPair s p nn⟩
  · exact ⟨_, exec_ldXyNn x nn s, setIdx_idx s x nn, only_setIdx s x nn⟩
  · exact ⟨_, exec_ldSpHl s, setSp_sp s s.hl, only_setSp s s.hl⟩
  · exact ⟨_, exec_ldSpXy x s, setSp_sp s (s.idx x), only_setSp s (s.idx x)⟩

end Sys2Proof.Machine
end

section
/-! Proofs for the family 45_general_control.md: `CPL`, `NEG`, `SCF`, `NOP`, `DI` and the interrupt modes. First the
flags of `NEG`; then the frames of the two flip-flops and of `IM`, and why a boundary does not look at the request
while `IFF1` is 0; then the encodings. -/

namespace Sys2Proof.Machine

/-! ### `CPL` and `NEG` on a byte (45_general_control.md R282, R283) -/

/-- Exclusive or with FFh inverts each of the eight bits. -/
theorem getLsbD_complement (v : Byte) {k : Nat} (hk : k < 8) : (v ^^^ 0xFF).getLsbD k = !v.getLsbD k := by
  have hone : (0xFF : Byte).getLsbD k = true := by
    rw [show (0xFF : Byte) = BitVec.allOnes 8 from rfl, BitVec.getLsbD_allOnes, decide_eq_true hk]
  rw [BitVec.getLsbD_xor, hone, Bool.xor_true]

/-- The six flags of `NEG`, each condition on numbers. -/
theorem negFlags_eq (v : Byte) :
    negFlags v = { s := (0 - v).getLsbD 7, z := decide ((0 - v).toNat = 0), h := decide (v.toNat % 16 ≠ 0), pv := decide (v.toNat = 128), n := true, c := decide (v.toNat ≠ 0) } := by
  have hz : (0 - v == 0) = decide ((0 - v).toNat = 0) := decide_byte_eq (0 - v) 0
  have hh : (v.toNat % 16 != 0) = decide (v.toNat % 16 ≠ 0) := decide_not.symm
  have hpv : (v == 0x80) = decide (v.toNat = 128) := decide_byte_eq v 0x80
  have hc : (v != 0) = decide (v.toNat ≠ 0) :=
    (congrArg (!·) (decide_byte_eq v 0)).trans decide_not.symm
  rw [negFlags, hz, hh, hpv, hc]
  rfl

/-! ### The flip-flops and the interrupt mode (45_general_control.md R288 to R291) -/

theorem only_setIffs (s : State) (b1 b2 : Bool) : OnlyRegs [.iff1, .iff2] s { s with iff1 := b1, iff2 := b2 } := by
  have hregs : SameRegsBut [.iff1, .iff2] s { s with iff1 := b1, iff2 := b2 } := by
    intro n hn
    cases n with
    | iff1 => simp at hn
    | iff2 => simp at hn
    | _ => rfl
  exact onlyReads_of_fields hregs rfl rfl rfl rfl rfl rfl rfl rfl rfl rfl

theorem only_setIm (s : State) (m : IntMode) : OnlyRegs [.im] s { s with im := m } := by
  have hregs : SameRegsBut [.im] s { s with im := m } := by
    intro n hn
    cases n with
    | im => simp at hn
    | _ => rfl
  exact onlyReads_of_fields hregs rfl rfl rfl rfl rfl rfl rfl rfl rfl rfl

/-- An instruction that only selects an interrupt mode. -/
theorem exec_selects_mode {i : Instr} {s : State} {m : IntMode} (hexec : exec i s = .next { s with im := m }) :
    ∃ t : State, exec i s = .next t ∧ t.im.number = m.number ∧ OnlyRegs [.im] s t :=
  ⟨_, hexec, rfl, only_setIm s m⟩

/-- While `IFF1` is 0 the maskable request plays no part at a boundary (60_exceptions.md R444). -/
theorem runBoundary_int_irrelevant {s : State} (h : s.iff1 = false) (b : Boundary) (request : Bool) :
    s.runBoundary { b with int := request } = s.runBoundary b := by
  simp only [State.runBoundary, h, Bool.and_false, Bool.false_and]

/-! ### Encodings (30_encoding.md) -/

theorem encodedAs_cpl (v : Variant) : EncodedAs v .cpl [0x2F] := by
  cases v <;> exact ⟨rfl, fun _ => rfl⟩

theorem encodedAs_neg (v : Variant) : EncodedAs v .neg [0xED, 0x44] := by
  cases v <;> exact ⟨rfl, fun _ => rfl⟩

theorem encodedAs_scf (v : Variant) : EncodedAs v .scf [0x37] := by
  cases v <;> exact ⟨rfl, fun _ => rfl⟩

theorem encodedAs_nop (v : Variant) : EncodedAs v .nop [0x00] := by
  cases v <;> exact ⟨rfl, fun _ => rfl⟩

theorem encodedAs_di (v : Variant) : EncodedAs v .di [0xF3] := by
  cases v <;> exact ⟨rfl, fun _ => rfl⟩

theorem encodedAs_im0 (v : Variant) : EncodedAs v .im0 [0xED, 0x46] := by
  cases v <;> exact ⟨rfl, fun _ => rfl⟩

theorem encodedAs_im1 (v : Variant) : EncodedAs v .im1 [0xED, 0x56] := by
  cases v <;> exact ⟨rfl, fun _ => rfl⟩

theorem encodedAs_im2 (v : Variant) : EncodedAs v .im2 [0xED, 0x5E] := by
  cases v <;> exact ⟨rfl, fun _ => rfl⟩

/-- The mode field 01 of the `IM` encodings selects nothing (R291). -/
theorem decode_im_field01 (v : Variant) (rest : List Byte) :
    decode v (0xED :: 0x4E :: rest) = .error .undefinedEd := by
  cases v <;> rfl

/-! ### The obligations -/

/-- Settles O22: `CPL` and `NEG` write `A` and then F, `SCF` writes F alone, so results, flags and frame are those
of the two writes. -/
theorem complementNegateSetCarry : Obligations.ComplementNegateSetCarry := by
  unfold Obligations.ComplementNegateSetCarry
  refine ⟨fun v => ⟨encodedAs_cpl v, encodedAs_neg v, encodedAs_scf v⟩, fun s => ?_, fun s => ?_, fun s => ?_⟩
  · exact ⟨_, exec_cpl s, fun k hk => getLsbD_complement s.main.a hk, putFlags_flags _ _, only_setA_putFlags s _ _⟩
  · refine ⟨_, exec_neg s, ?_, ?_, only_setA_putFlags s _ _⟩
    · exact BitVec.toNat_sub 0 s.main.a
    · rw [putFlags_flags, negFlags_eq]
      rfl
  · exact ⟨_, exec_scf s, putFlags_flags _ _, only_putFlags s _⟩

/-- Settles O24: `DI` writes the two flip-flops alone, and with `IFF1` clear the next boundary is the same for
either level of the request. -/
theorem nopAndDisableInterrupts : Obligations.NopAndDisableInterrupts := by
  unfold Obligations.NopAndDisableInterrupts
  refine ⟨fun v => ⟨encodedAs_nop v, encodedAs_di v⟩, exec_nop,
    fun s => ⟨_, exec_di s, rfl, rfl, only_setIffs s false false⟩, fun s t b hexec => ?_⟩
  have hiff1 : t.iff1 = false := by
    rw [exec_di] at hexec
    cases hexec
    rfl
  rw [runBoundary_int_irrelevant hiff1 b true, runBoundary_int_irrelevant hiff1 b false]

/-- Settles O26: each instruction writes `IM` alone, and the decoder refuses the field value 01. -/
theorem interruptModeSelect : Obligations.InterruptModeSelect := by
  unfold Obligations.InterruptModeSelect
  refine ⟨fun v => ⟨encodedAs_im0 v, encodedAs_im1 v, encodedAs_im2 v⟩, decode_im_field01,
    fun s => ?_, fun s => ?_, fun s => ?_⟩
  · exact exec_selects_mode (exec_im0 s)
  · exact exec_selects_mode (exec_im1 s)
  · exact exec_selects_mode (exec_im2 s)

end Sys2Proof.Machine
end

section
/-! Proofs for the family 46_jump_call_return.md: the jumps and the returns. First what a relative jump and a
condition say in the words of the statements; then the two shapes that the instructions share, a jump that may not
be taken and a return; then the encodings. -/

namespace Sys2Proof.Machine

/-! ### A signed displacement (30_encoding.md R101) -/

/-- Adding a sign-extended displacement is adding its number, modulo 65536. -/
theorem add_sext16_eq_ofInt (w : Word) (e : Byte) : w + sext16 e = BitVec.ofInt 16 (w.toNat + e.toInt) := by
  have hw : BitVec.ofInt 16 w.toNat = w := by rw [BitVec.ofInt_natCast, BitVec.ofNat_toNat, BitVec.setWidth_eq]
  rw [BitVec.ofInt_add, hw]
  rfl

theorem toNat_add_sext16 (w : Word) (e : Byte) :
    ((w + sext16 e).toNat : Int) = (w.toNat + e.toInt) % 65536 := by
  rw [add_sext16_eq_ofInt, BitVec.toNat_ofInt]
  exact Int.toNat_of_nonneg (Int.emod_nonneg _ (by decide))

theorem jumpRel_pc_toNat (s : State) (e : Byte) :
    ((s.jumpRel e).pc.toNat : Int) = (s.pc.toNat + e.toInt) % 65536 := toNat_add_sext16 s.pc e

theorem only_jumpRel (s : State) (e : Byte) : OnlyRegs [.pc] s (s.jumpRel e) := only_setPc s _

/-! ### Conditions (30_encoding.md R99) -/

theorem condHolds_iff (cc : Cond) (s : State) : condHolds cc s.flags = true ↔ condTrue cc s := by
  cases cc with
  | nz | nc | po | p => exact iff_of_eq (Bool.not_eq_true' _)
  | z | c | pe | m => exact Iff.rfl

theorem cond4Holds_iff (cc : Cond4) (s : State) : cond4Holds cc s.flags = true ↔ condTrue (wideCond cc) s := by
  have hwide : cond4Holds cc s.flags = condHolds (wideCond cc) s.flags := by cases cc <;> rfl
  rw [hwide, condHolds_iff]

/-! ### The shapes of the instructions -/

/-- An instruction that only loads `pc`. -/
theorem exec_jumps {i : Instr} {s : State} {target : Word} (hexec : exec i s = .next (s.setPc target)) :
    ∃ t : State, exec i s = .next t ∧ t.pc = target ∧ OnlyRegs [.pc] s t :=
  ⟨_, hexec, setPc_pc s target, only_setPc s target⟩

/-- An instruction that loads `pc` when its condition holds and otherwise leaves the state as it is. -/
theorem exec_jumps_when {i : Instr} {s : State} {target : Word} {test : Bool} {cond : Prop}
    (hexec : exec i s = .next (if test then s.setPc target else s)) (htest : test = true ↔ cond) :
    ∃ t : State, exec i s = .next t ∧ (cond → t.pc = target) ∧ (¬cond → t.pc = s.pc) ∧ OnlyRegs [.pc] s t := by
  by_cases h : test = true
  · rw [if_pos h] at hexec
    exact ⟨_, hexec, fun _ => setPc_pc s target, fun hnot => absurd (htest.1 h) hnot, only_setPc s target⟩
  · rw [if_neg h] at hexec
    exact ⟨_, hexec, fun hcond => absurd (htest.2 hcond) h, fun _ => rfl,
      (OnlyReads.refl s).mono (List.nil_subset _)⟩

/-- The two outcomes of `DJNZ e`: the jump is decided by `B` after the decrement (R307). -/
theorem exec_djnzE_cases (e : Byte) (s : State) :
    (s.main.b - 1 = 0 ∧ exec (.djnzE e) s = .next (s.setB (s.main.b - 1))) ∨
      (s.main.b - 1 ≠ 0 ∧ exec (.djnzE e) s = .next ((s.setB (s.main.b - 1)).jumpRel e)) := by
  rw [exec_djnzE]
  by_cases h : s.main.b - 1 = 0
  · exact .inl ⟨h, by rw [if_pos h]⟩
  · exact .inr ⟨h, by rw [if_neg h]⟩

/-- An instruction that pops `pc`, the low byte first (20_memory.md R71). -/
theorem exec_returns {i : Instr} {s : State} (hexec : exec i s = .next s.popPc) :
    ∃ t : State, exec i s = .next t ∧
      t.pc = join ((s.memRead s.sp).memIn (s.sp + 1)) (s.memIn s.sp) ∧ t.sp = s.sp + 2 ∧
      OnlyReads [.sp, .pc]
        [.memRead s.sp (s.memIn s.sp), .memRead (s.sp + 1) ((s.memRead s.sp).memIn (s.sp + 1))] s t :=
  ⟨_, hexec, popPc_pc s, popPc_sp s, only_popPc s⟩

theorem exec_retCc_of_cond {cc : Cond} {s : State} (h : condTrue cc s) : exec (.retCc cc) s = .next s.popPc := by
  rw [exec_retCc, if_pos ((condHolds_iff cc s).2 h)]

theorem exec_retCc_of_not_cond {cc : Cond} {s : State} (h : ¬condTrue cc s) : exec (.retCc cc) s = .next s := by
  rw [exec_retCc, if_neg (mt (condHolds_iff cc s).1 h)]

/-! ### Encodings (30_encoding.md) -/

theorem encodedAs_jpNn (v : Variant) (nn : Word) : EncodedAs v (.jpNn nn) [0xC3, lo nn, hi nn] :=
  encodedAs_imm16 [0xC3] nn rfl (by cases v <;> exact fun _ _ _ => rfl)

theorem encodedAs_jpHl (v : Variant) : EncodedAs v .jpHl [0xE9] := by
  cases v <;> exact ⟨rfl, fun _ => rfl⟩

theorem encodedAs_jpXy (v : Variant) (x : Idx) : EncodedAs v (Form.jpXy x) [prefixByte x, 0xE9] := by
  cases v <;> cases x <;> exact ⟨rfl, fun _ => rfl⟩

theorem encodedAs_jpCcNn (v : Variant) (cc : Cond) (nn : Word) :
    EncodedAs v (.jpCcNn cc nn) [0xC2 ||| cc.code <<< 3, lo nn, hi nn] := by
  refine encodedAs_imm16 [0xC2 ||| cc.code <<< 3] nn ?_ ?_
  · cases cc <;> rfl
  · cases v <;> cases cc <;> exact fun _ _ _ => rfl

theorem encodedAs_jrE (v : Variant) (e : Byte) : EncodedAs v (.jrE e) [0x18, e] := by
  cases v <;> exact ⟨rfl, fun _ => rfl⟩

theorem encodedAs_jrCcE (v : Variant) (cc : Cond4) (e : Byte) :
    EncodedAs v (.jrCcE cc e) [0x20 ||| cc.code <<< 3, e] := by
  cases v <;> cases cc <;> exact ⟨rfl, fun _ => rfl⟩

theorem encodedAs_djnzE (v : Variant) (e : Byte) : EncodedAs v (.djnzE e) [0x10, e] := by
  cases v <;> exact ⟨rfl, fun _ => rfl⟩

theorem encodedAs_ret (v : Variant) : EncodedAs v .ret [0xC9] := by
  cases v <;> exact ⟨rfl, fun _ => rfl⟩

theorem encodedAs_reti (v : Variant) : EncodedAs v .reti [0xED, 0x4D] := by
  cases v <;> exact ⟨rfl, fun _ => rfl⟩

theorem encodedAs_retCc (v : Variant) (cc : Cond) : EncodedAs v (.retCc cc) [0xC0 ||| cc.code <<< 3] := by
  cases v <;> cases cc <;> exact ⟨rfl, fun _ => rfl⟩

/-! ### The obligations -/

/-- Settles O28: each form is one `setPc`, whose frame makes no access. -/
theorem jumpAbsolute : Obligations.JumpAbsolute := by
  unfold Obligations.JumpAbsolute
  refine ⟨encodedAs_jpNn, encodedAs_jpHl, encodedAs_jpXy, fun nn s => ?_, fun s => ?_, fun x s => ?_⟩
  · exact exec_jumps (exec_jpNn nn s)
  · exact exec_jumps (exec_jpHl s)
  · exact exec_jumps (exec_jpXy x s)

/-- Settles O29: the conditional forms load `pc` or leave the state as it is; `DJNZ` writes `B` first and then
tests what it wrote. -/
theorem jumpConditionalAndRelative : Obligations.JumpConditionalAndRelative := by
  unfold Obligations.JumpConditionalAndRelative
  refine ⟨encodedAs_jpCcNn, fun v e => ⟨encodedAs_jrE v e, encodedAs_djnzE v e⟩, encodedAs_jrCcE,
    fun cc nn s => ?_, fun e s => ?_, fun cc e s => ?_, fun e s => ?_⟩
  · exact exec_jumps_when (exec_jpCcNn cc nn s) (condHolds_iff cc s)
  · exact ⟨_, exec_jrE e s, jumpRel_pc_toNat s e, only_jumpRel s e⟩
  · obtain ⟨t, hexec, htaken, hnot, hframe⟩ := exec_jumps_when (exec_jrCcE cc e s) (cond4Holds_iff cc s)
    exact ⟨t, hexec, fun hcond => htaken hcond ▸ toNat_add_sext16 s.pc e, hnot, hframe⟩
  · have hcount : (s.main.b - 1).toNat = (s.main.b.toNat + 255) % 256 := toNat_dec8 s.main.b
    have hzero : (s.main.b - 1).toNat = 0 ↔ s.main.b - 1 = 0 := BitVec.toNat_inj (y := 0)
    rcases exec_djnzE_cases e s with ⟨hb, hexec⟩ | ⟨hb, hexec⟩
    · exact ⟨_, hexec, hcount, fun hne => absurd (hzero.2 hb) hne, fun _ => rfl,
        (only_setB s _).mono (by simp)⟩
    · exact ⟨_, hexec, hcount, fun _ => jumpRel_pc_toNat (s.setB _) e, fun heq => absurd (hzero.1 heq) hb,
        (only_setB s _).trans (only_jumpRel _ e) (by simp) (by simp)⟩

/-- Settles O31: `RET`, `RETI` and a taken `RET cc` are the one pop of `pc`, whose frame holds both flip-flops. -/
theorem returns : Obligations.Returns := by
  unfold Obligations.Returns
  refine ⟨fun v => ⟨encodedAs_ret v, encodedAs_reti v⟩, encodedAs_retCc, ?_⟩
  rintro s _ _ _ rfl rfl rfl
  exact ⟨exec_returns (exec_ret s), exec_returns (exec_reti s),
    fun _ hcond => exec_returns (exec_retCc_of_cond hcond), fun _ hnot => exec_retCc_of_not_cond hnot⟩

end Sys2Proof.Machine
end

section
/-! Proofs for the family 47_rotate_shift_bit.md: the rotates and shifts, the digit rotates, `SET` and `RES`. First
the model's numbers as bits; then what the shared operations do, whole; then the encodings. -/

namespace Sys2Proof.Machine

/-! ### A rotate or shift, bit by bit (47_rotate_shift_bit.md R330 to R362) -/

/-- A byte moved one place to the left, with `c` entering at bit 0. -/
theorem getLsbD_shiftLeftWith (v : Byte) (c : Bool) {k : Nat} (hk : k < 8) :
    (BitVec.ofNat 8 (v.toNat * 2 % 256 + c.toNat)).getLsbD k = if k = 0 then c else v.getLsbD (k - 1) := by
  have hconcat : BitVec.ofNat 8 (v.toNat * 2 % 256 + c.toNat) = v.shiftConcat c := by
    apply BitVec.eq_of_toNat_eq
    rw [BitVec.toNat_ofNat, BitVec.toNat_shiftConcat, Nat.shiftLeft_eq, Nat.pow_one, Nat.mod_add_mod]
  rw [hconcat, BitVec.getLsbD_shiftConcat, decide_eq_true hk, Bool.true_and]

/-- A byte moved one place to the right, with `c` entering at bit 7. -/
theorem getLsbD_shiftRightWith (v : Byte) (c : Bool) {k : Nat} (hk : k < 8) :
    (BitVec.ofNat 8 (v.toNat / 2 + 128 * c.toNat)).getLsbD k = if k = 7 then c else v.getLsbD (k + 1) := by
  have hcons : BitVec.ofNat 8 (v.toNat / 2 + 128 * c.toNat) = (v.extractLsb' 1 7).cons c := by
    apply BitVec.eq_of_toNat_eq
    rw [BitVec.toNat_ofNat, BitVec.toNat_cons', BitVec.extractLsb'_toNat, Nat.shiftLeft_eq,
      Nat.shiftRight_eq_div_pow]
    have hv := v.isLt
    have hc := c.toNat_le
    omega
  rw [hcons, BitVec.getLsbD_cons]
  by_cases h7 : k = 7
  · rw [if_pos h7, if_pos h7]
  · rw [if_neg h7, if_neg h7, BitVec.getLsbD_extractLsb', decide_eq_true (by omega), Bool.true_and, Nat.add_comm]

/-- Each bit of the result: the left operations differ in the bit that enters at 0, the right ones in the bit that
enters at 7, and for `RLC` and `RRC` that bit is the one moved out. -/
theorem rotResult_getLsbD (op : Rot) (v : Byte) (cy : Bool) {k : Nat} (hk : k < 8) :
    (rotResult op v cy).getLsbD k = rotatedBit op v cy k := by
  cases op with
  | rl => exact getLsbD_shiftLeftWith v cy hk
  | sla => exact getLsbD_shiftLeftWith v false hk
  | rr => exact getLsbD_shiftRightWith v cy hk
  | sra => exact getLsbD_shiftRightWith v (v.getLsbD 7) hk
  | srl => exact getLsbD_shiftRightWith v false hk
  | rlc =>
    refine (getLsbD_shiftLeftWith v (v.getLsbD 7) hk).trans ?_
    rw [← apply_ite v.getLsbD, rotatedBit]
    congr 1
    split <;> omega
  | rrc =>
    refine (getLsbD_shiftRightWith v (v.getLsbD 0) hk).trans ?_
    rw [← apply_ite v.getLsbD, rotatedBit]
    congr 1
    split <;> omega

theorem rotOut_eq_rotatedOut (op : Rot) (v : Byte) : rotOut op v = rotatedOut op v := by
  cases op <;> rfl

/-- The flags of a rotate or shift are those of a logical result with the bit moved out in C (R330). -/
theorem shiftFlags_eq (r : Byte) (c : Bool) :
    shiftFlags r c = { s := r.getLsbD 7, z := decide (r.toNat = 0), h := false, pv := evenOnes r, n := false, c := c } := by
  have hlogic : shiftFlags r c = { logicFlags r false with c := c } := rfl
  rw [hlogic, logicFlags_eq]

/-- The flags of `RLD` and `RRD` are those of a logical result with C as it was (R363, R364). -/
theorem dataFlags_eq (r : Byte) (old : Flags) :
    dataFlags r old = { s := r.getLsbD 7, z := decide (r.toNat = 0), h := false, pv := evenOnes r, n := false, c := old.c } :=
  shiftFlags_eq r old.c

/-! ### The shared operations on the state -/

/-- The four rotates of `A` are one operation. -/
theorem exec_accRotate {i : Instr} {op : Rot} (s : State)
    (hform : (i, op) ∈ [(Instr.rlca, Rot.rlc), (.rla, .rl), (.rrca, .rrc), (.rra, .rr)]) :
    exec i s = .next (s.rotateAcc op) := by
  simp only [List.mem_cons, List.not_mem_nil, or_false, Prod.mk.injEq] at hform
  obtain ⟨rfl, rfl⟩ | ⟨rfl, rfl⟩ | ⟨rfl, rfl⟩ | ⟨rfl, rfl⟩ := hform
  · exact exec_rlca s
  · exact exec_rla s
  · exact exec_rrca s
  · exact exec_rra s

@[simp] theorem rotateAcc_a (s : State) (op : Rot) :
    (s.rotateAcc op).main.a = rotResult op s.main.a s.flags.c := rfl

@[simp] theorem rotateAcc_flags (s : State) (op : Rot) :
    (s.rotateAcc op).flags = accRotFlags (rotOut op s.main.a) s.flags := putFlags_flags _ _

theorem only_rotateAcc (s : State) (op : Rot) : OnlyRegs [.a, .f] s (s.rotateAcc op) :=
  only_setA_putFlags s _ _

@[simp] theorem rotateReg_reg (s : State) (op : Rot) (r : Reg8) :
    (s.rotateReg op r).reg r = rotResult op (s.reg r) s.flags.c := changeReg_reg s r _ _

@[simp] theorem rotateReg_flags (s : State) (op : Rot) (r : Reg8) :
    (s.rotateReg op r).flags = shiftFlags (rotResult op (s.reg r) s.flags.c) (rotOut op (s.reg r)) :=
  changeReg_flags s r _ _

@[simp] theorem rotateMem_flags (s : State) (op : Rot) (a : Word) :
    (s.rotateMem op a).flags = shiftFlags (rotResult op (s.memIn a) s.flags.c) (rotOut op (s.memIn a)) :=
  changeMem_flags s a _ _

@[simp] theorem rotateDigits_a (s : State) (m v : Byte) : (s.rotateDigits m v).main.a = v := by
  simp [State.rotateDigits]

@[simp] theorem rotateDigits_flags (s : State) (m v : Byte) : (s.rotateDigits m v).flags = dataFlags v s.flags :=
  putFlags_flags _ _

theorem only_rotateDigits (s : State) (m v : Byte) :
    OnlyStores [.a, .f] s.hl m [.memRead s.hl (s.memIn s.hl), .memWrite s.hl m] s (s.rotateDigits m v) :=
  have hread : OnlyReads [.a] [.memRead s.hl (s.memIn s.hl)] s ((s.memRead s.hl).setA v) :=
    (only_memRead s s.hl).trans (only_setA _ v) (List.nil_subset _) (List.Subset.refl _)
  have hstore := OnlyStores.after hread (only_memWrite _ s.hl m) (List.Subset.refl _) (List.nil_subset _)
  hstore.before (only_putFlags _ (dataFlags v s.flags)) (by simp) (by simp)

/-- An instruction that is `rotateDigits`: the memory byte, `A` and the flags, for digits given as numbers. -/
theorem exec_rotates_digits {i : Instr} {s : State} {m a : Nat} (hm : m < 256) (ha : a < 256)
    (hexec : exec i s = .next (s.rotateDigits (BitVec.ofNat 8 m) (BitVec.ofNat 8 a))) :
    ∃ (t : State) (stored : Byte), exec i s = .next t ∧ stored.toNat = m ∧ t.main.a.toNat = a ∧
      t.flags = { s := t.main.a.getLsbD 7, z := decide (t.main.a.toNat = 0), h := false, pv := evenOnes t.main.a, n := false, c := s.flags.c } ∧
      OnlyStores [.a, .f] s.hl stored [.memRead s.hl (s.memIn s.hl), .memWrite s.hl stored] s t := by
  refine ⟨_, _, hexec, ?_, ?_, ?_, only_rotateDigits s _ _⟩
  · exact (BitVec.toNat_ofNat m 8).trans (Nat.mod_eq_of_lt hm)
  · rw [rotateDigits_a]
    exact (BitVec.toNat_ofNat a 8).trans (Nat.mod_eq_of_lt ha)
  · rw [rotateDigits_flags, rotateDigits_a, dataFlags_eq]

/-! ### One bit of a byte (47_rotate_shift_bit.md R369, R373) -/

theorem getLsbD_bitMask (b : BitVec 3) (k : Nat) : (bitMask b).getLsbD k = decide (k = b.toNat) := by
  have hpow : bitMask b = BitVec.twoPow 8 b.toNat := rfl
  rw [hpow, BitVec.getLsbD_twoPow, decide_eq_true b.isLt, Bool.true_and, decide_eq_decide]
  exact eq_comm

theorem getLsbD_or_bitMask (v : Byte) (b : BitVec 3) (k : Nat) :
    (v ||| bitMask b).getLsbD k = (decide (k = b.toNat) || v.getLsbD k) := by
  rw [BitVec.getLsbD_or, getLsbD_bitMask, Bool.or_comm]

theorem getLsbD_and_not_bitMask (v : Byte) (b : BitVec 3) {k : Nat} (hk : k < 8) :
    (v &&& (0xFF - bitMask b)).getLsbD k = (decide (k ≠ b.toNat) && v.getLsbD k) := by
  have hnot : 0xFF - bitMask b = ~~~bitMask b := BitVec.allOnes_sub_eq_not (bitMask b)
  rw [hnot, BitVec.getLsbD_and, BitVec.getLsbD_not, getLsbD_bitMask, decide_eq_true hk, Bool.true_and,
    decide_not, Bool.and_comm]

/-- One read, then one write at the same address, and no flag (20_memory.md R65). -/
theorem only_memRead_memWrite (s : State) (a : Word) (v : Byte) :
    OnlyStores [] a v [.memRead a (s.memIn a), .memWrite a v] s ((s.memRead a).memWrite a v) :=
  OnlyStores.after (only_memRead s a) (only_memWrite _ a v) (List.Subset.refl []) (List.Subset.refl [])

theorem only_setBitMem (s : State) (b : BitVec 3) (a : Word) :
    OnlyStores [] a (s.memIn a ||| bitMask b)
      [.memRead a (s.memIn a), .memWrite a (s.memIn a ||| bitMask b)] s (s.setBitMem b a) :=
  only_memRead_memWrite s a _

theorem only_resBitMem (s : State) (b : BitVec 3) (a : Word) :
    OnlyStores [] a (s.memIn a &&& (0xFF - bitMask b))
      [.memRead a (s.memIn a), .memWrite a (s.memIn a &&& (0xFF - bitMask b))] s (s.resBitMem b a) :=
  only_memRead_memWrite s a _

/-! ### Encodings (30_encoding.md R107) -/

/-- A bit number put into bits 5 to 3 of `op` leaves the bits on both sides of it. -/
theorem extractLsb'_withField_other (op : Byte) (b : BitVec 3) :
    (withField op (b.zeroExtend 8) 3).extractLsb' 6 2 = op.extractLsb' 6 2 ∧
      fieldZ (withField op (b.zeroExtend 8) 3) = fieldZ op := by
  have htop : (b.zeroExtend 8 <<< 3).extractLsb' 6 2 = 0#2 := by revert b; decide
  have hlow : (b.zeroExtend 8 <<< 3).extractLsb' 0 3 = 0#3 := by revert b; decide
  constructor
  · rw [withField, BitVec.extractLsb'_or, htop, BitVec.or_zero]
  · rw [fieldZ, withField, BitVec.extractLsb'_or, hlow, BitVec.or_zero]
    rfl

/-- A bit number put into clear bits 5 to 3 is read back from them. -/
theorem fieldY_withField {op : Byte} (hclear : fieldY op = 0) (b : BitVec 3) :
    fieldY (withField op (b.zeroExtend 8) 3) = b := by
  have hfield : (b.zeroExtend 8 <<< 3).extractLsb' 3 3 = b := by revert b; decide
  have hop : op.extractLsb' 3 3 = 0#3 := hclear
  rw [fieldY, withField, BitVec.extractLsb'_or, hfield, hop, BitVec.zero_or]

/-- The two fields of a CB instruction on a register can be put in in either order. -/
theorem or_bitNumber_or_regCode (op : Byte) (b : BitVec 3) (r : Reg8) :
    op ||| b.zeroExtend 8 <<< 3 ||| regCode r = withField (op ||| regCode r) (b.zeroExtend 8) 3 := by
  rw [withField, BitVec.or_assoc, BitVec.or_comm (b.zeroExtend 8 <<< 3), ← BitVec.or_assoc]

theorem decodeLoop_of_complete {v : Variant} {got : List Byte} {i : Instr} (hneed : need v got = .complete i)
    (k : Nat) (rest : List Byte) : decodeLoop v (k + 1) got rest = .ok (i, rest) := by
  simp only [decodeLoop, hneed]

/-- The decoder stops at the second byte of a CB instruction. -/
theorem decode_cb {v : Variant} {byte : Byte} {i : Instr} (hshape : cbShape byte = .plain i) (rest : List Byte) :
    decode v (0xCB :: byte :: rest) = .ok (i, rest) := by
  have hneed : need v [0xCB, byte] = .complete i := congrArg (Shape.need · .undefinedCb []) hshape
  exact decodeLoop_of_complete hneed 2 rest

/-- A CB instruction with a bit number: its meaning is fixed by bits 7 and 6 and bits 2 to 0 of `op`, and the bit
number by the field between them. -/
theorem encodedAs_cbField {f : BitVec 3 → Instr} {op : Byte} (v : Variant) (b : BitVec 3)
    (hclear : fieldY op = 0) (hencode : encode (f b) = [0xCB, withField op (b.zeroExtend 8) 3])
    (hshape : ∀ byte : Byte, byte.extractLsb' 6 2 = op.extractLsb' 6 2 → fieldZ byte = fieldZ op →
      cbShape byte = .plain (f (fieldY byte))) :
    EncodedAs v (f b) [0xCB, withField op (b.zeroExtend 8) 3] := by
  obtain ⟨htop, hlow⟩ := extractLsb'_withField_other op b
  have hplain := hshape _ htop hlow
  rw [fieldY_withField hclear] at hplain
  exact ⟨hencode, decode_cb hplain⟩

theorem encodedAs_setR (v : Variant) (b : BitVec 3) (r : Reg8) :
    EncodedAs v (Form.setR b r) [0xCB, 0xC0 ||| b.zeroExtend 8 <<< 3 ||| regCode r] := by
  rw [or_bitNumber_or_regCode]
  refine encodedAs_cbField (f := (Form.setR · r)) (op := 0xC0 ||| regCode r) v b ?_ ?_ fun byte htop hlow => ?_
  · cases r <;> rfl
  · cases r <;> rfl
  · rw [cbShape, htop, hlow]
    cases r <;> rfl

theorem encodedAs_resR (v : Variant) (b : BitVec 3) (r : Reg8) :
    EncodedAs v (Form.resR b r) [0xCB, 0x80 ||| b.zeroExtend 8 <<< 3 ||| regCode r] := by
  rw [or_bitNumber_or_regCode]
  refine encodedAs_cbField (f := (Form.resR · r)) (op := 0x80 ||| regCode r) v b ?_ ?_ fun byte htop hlow => ?_
  · cases r <;> rfl
  · cases r <;> rfl
  · rw [cbShape, htop, hlow]
    cases r <;> rfl

theorem encodedAs_setAtHl (v : Variant) (b : BitVec 3) :
    EncodedAs v (.setAtHl b) [0xCB, 0xC6 ||| b.zeroExtend 8 <<< 3] :=
  encodedAs_cbField (op := 0xC6) v b rfl rfl fun byte htop hlow => by
    rw [cbShape, htop, hlow]
    rfl

theorem encodedAs_resAtHl (v : Variant) (b : BitVec 3) :
    EncodedAs v (.resAtHl b) [0xCB, 0x86 ||| b.zeroExtend 8 <<< 3] :=
  encodedAs_cbField (op := 0x86) v b rfl rfl fun byte htop hlow => by
    rw [cbShape, htop, hlow]
    rfl

theorem encodedAs_rotR (v : Variant) (op : Rot) (r : Reg8) :
    EncodedAs v (Form.rotR op r) [0xCB, rotCode op <<< 3 ||| regCode r] := by
  refine ⟨?_, decode_cb ?_⟩
  · cases op <;> cases r <;> rfl
  · cases op <;> cases r <;> rfl

theorem encodedAs_rotAtHl (v : Variant) (op : Rot) :
    EncodedAs v (Form.rotAtHl op) [0xCB, rotCode op <<< 3 ||| 6] := by
  refine ⟨?_, decode_cb ?_⟩
  · cases op <;> rfl
  · cases op <;> rfl

theorem encodedAs_rlca (v : Variant) : EncodedAs v .rlca [0x07] := by
  cases v <;> exact ⟨rfl, fun _ => rfl⟩

theorem encodedAs_rla (v : Variant) : EncodedAs v .rla [0x17] := by
  cases v <;> exact ⟨rfl, fun _ => rfl⟩

theorem encodedAs_rrca (v : Variant) : EncodedAs v .rrca [0x0F] := by
  cases v <;> exact ⟨rfl, fun _ => rfl⟩

theorem encodedAs_rra (v : Variant) : EncodedAs v .rra [0x1F] := by
  cases v <;> exact ⟨rfl, fun _ => rfl⟩

theorem encodedAs_rld (v : Variant) : EncodedAs v .rld [0xED, 0x6F] := by
  cases v <;> exact ⟨rfl, fun _ => rfl⟩

theorem encodedAs_rrd (v : Variant) : EncodedAs v .rrd [0xED, 0x67] := by
  cases v <;> exact ⟨rfl, fun _ => rfl⟩

/-! ### The obligations -/

/-- Settles O33: every form is `rotateReg`, so the bits are those of `rotResult`, the flags those of `shiftFlags` and
the frame that of `changeReg`. -/
theorem rotateShiftRegister : Obligations.RotateShiftRegister := by
  unfold Obligations.RotateShiftRegister
  refine fun op r => ⟨fun v => encodedAs_rotR v op r, fun s => ?_⟩
  refine ⟨_, exec_rotR op r s, fun k hk => ?_, ?_, only_changeReg s r _ _⟩
  · rw [rotateReg_reg, rotResult_getLsbD op _ _ hk]
  · rw [rotateReg_flags, rotateReg_reg, shiftFlags_eq, rotOut_eq_rotatedOut]

/-- Settles O34: the byte stored is `rotResult` of the byte read, by `changeMem`, which reads and then writes at the
same address. -/
theorem rotateShiftAtHl : Obligations.RotateShiftAtHl := by
  unfold Obligations.RotateShiftAtHl
  refine fun op => ⟨fun v => encodedAs_rotAtHl v op, fun s => ?_⟩
  refine ⟨_, rotResult op (s.memIn s.hl) s.flags.c, exec_rotAtHl op s, fun k hk => ?_, ?_, only_changeMem s s.hl _ _⟩
  · exact rotResult_getLsbD op _ _ hk
  · rw [rotateMem_flags, shiftFlags_eq, rotOut_eq_rotatedOut]

/-- Settles O32: every form is `rotateAcc`, whose flags are the old ones but for H, N and C. -/
theorem rotateAccumulator : Obligations.RotateAccumulator := by
  unfold Obligations.RotateAccumulator
  refine ⟨fun v => ⟨encodedAs_rlca v, encodedAs_rla v, encodedAs_rrca v, encodedAs_rra v⟩, fun i op s hform => ?_⟩
  refine ⟨_, exec_accRotate s hform, fun k hk => ?_, ?_, only_rotateAcc s op⟩
  · rw [rotateAcc_a, rotResult_getLsbD op _ _ hk]
  · rw [rotateAcc_flags, accRotFlags, rotOut_eq_rotatedOut]

/-- Settles O36: both forms are `rotateDigits`, and two digits put together are a byte. -/
theorem digitRotates : Obligations.DigitRotates := by
  unfold Obligations.DigitRotates
  refine ⟨fun v => ⟨encodedAs_rld v, encodedAs_rrd v⟩, ?_⟩
  rintro s _ rfl
  have hmem := (s.memIn s.hl).isLt
  have hacc := s.main.a.isLt
  exact ⟨exec_rotates_digits (by omega) (by omega) (exec_rld s),
    exec_rotates_digits (by omega) (by omega) (exec_rrd s)⟩

/-- Settles O38: the register forms are one `setReg`, the `(HL)` forms a read and then a write, and the byte written
is the old one with the bit of `bitMask` put in or taken out. -/
theorem setResetBit : Obligations.SetResetBit := by
  unfold Obligations.SetResetBit
  refine ⟨fun v b r => ⟨encodedAs_setR v b r, encodedAs_resR v b r, encodedAs_setAtHl v b, encodedAs_resAtHl v b⟩,
    fun b r s => ?_, fun b r s => ?_, ?_⟩
  · refine ⟨_, exec_setR b r s, fun k _ => ?_, only_setReg s r _⟩
    rw [setReg_reg, getLsbD_or_bitMask]
  · refine ⟨_, exec_resR b r s, fun k hk => ?_, only_setReg s r _⟩
    rw [setReg_reg, getLsbD_and_not_bitMask _ b hk]
  · rintro b s _ rfl
    exact ⟨⟨_, _, exec_setAtHl b s, fun k _ => getLsbD_or_bitMask _ b k, only_setBitMem s b s.hl⟩,
      _, _, exec_resAtHl b s, fun k hk => getLsbD_and_not_bitMask _ b hk, only_resBitMem s b s.hl⟩

end Sys2Proof.Machine
end

section
/-! Proofs for the family 48_io.md: `IN` and `OUT` of one byte. First a register loaded from a port, whole; then the
encodings. The address of the access is formed in the state before the load, so it is the old `A` or the old `BC`. -/

namespace Sys2Proof.Machine

/-! ### A register loaded from a port (48_io.md R390, R391) -/

theorem only_ioRead_setReg (s : State) (r : Reg8) (p : Word) :
    OnlyReads [nameOf r] [.ioRead p s.sfrIn] s ((s.ioRead p).setReg r s.sfrIn) :=
  (only_ioRead s p).trans (only_setReg _ r _) (List.nil_subset _) (List.Subset.refl _)

theorem only_ioRead_setReg_putFlags (s : State) (r : Reg8) (p : Word) (fl : Flags) :
    OnlyReads [nameOf r, .f] [.ioRead p s.sfrIn] s (((s.ioRead p).setReg r s.sfrIn).putFlags fl) :=
  (only_ioRead_setReg s r p).trans (only_putFlags _ fl) (by simp) (by simp)

/-! ### Encodings (30_encoding.md) -/

theorem encodedAs_inAPortN (v : Variant) (n : Byte) : EncodedAs v (.inAPortN n) [0xDB, n] := by
  cases v <;> exact ⟨rfl, fun _ => rfl⟩

theorem encodedAs_outPortNA (v : Variant) (n : Byte) : EncodedAs v (.outPortNA n) [0xD3, n] := by
  cases v <;> exact ⟨rfl, fun _ => rfl⟩

theorem encodedAs_inRPortC (v : Variant) (r : Reg8) :
    EncodedAs v (Form.inRPortC r) [0xED, 0x40 ||| regCode r <<< 3] := by
  cases v <;> cases r <;> exact ⟨rfl, fun _ => rfl⟩

theorem encodedAs_outPortCR (v : Variant) (r : Reg8) :
    EncodedAs v (Form.outPortCR r) [0xED, 0x41 ||| regCode r <<< 3] := by
  cases v <;> cases r <;> exact ⟨rfl, fun _ => rfl⟩

/-- The register code 110 names no register to load from a port (R391). -/
theorem decode_inPortC_code6 (v : Variant) (rest : List Byte) :
    decode v (0xED :: 0x70 :: rest) = .error .undefinedEd := by
  cases v <;> rfl

/-- The register code 110 names no register to write to a port (R393). -/
theorem decode_outPortC_code6 (v : Variant) (rest : List Byte) :
    decode v (0xED :: 0x71 :: rest) = .error .undefinedEd := by
  cases v <;> rfl

/-! ### The obligations -/

/-- Settles O39: `IN A,(n)` is one read at `portAN` followed by a load of `A`, and `OUT (n),A` one write there. -/
theorem portImmediate : Obligations.PortImmediate := by
  unfold Obligations.PortImmediate
  refine ⟨fun v n => ⟨encodedAs_inAPortN v n, encodedAs_outPortNA v n⟩, fun n s => ?_, fun n s => ?_⟩
  · exact ⟨_, exec_inAPortN n s, setReg_reg _ .a _, only_ioRead_setReg s .a (s.portAN n)⟩
  · exact ⟨_, exec_outPortNA n s, only_ioWrite s (s.portAN n) s.main.a⟩

/-- Settles O40: `IN r,(C)` is one read at `portBC`, a load of `r` and then `dataFlags`, which leave the register
and keep C; `OUT (C),r` is one write there. -/
theorem portThroughC : Obligations.PortThroughC := by
  unfold Obligations.PortThroughC
  refine ⟨fun v r => ⟨encodedAs_inRPortC v r, encodedAs_outPortCR v r⟩,
    fun v rest => ⟨decode_inPortC_code6 v rest, decode_outPortC_code6 v rest⟩, ?_, fun r s => ?_⟩
  · rintro r s _ rfl
    refine ⟨_, exec_inRPortC r s, ?_, ?_, only_ioRead_setReg_putFlags s r s.portBC _⟩
    · rw [putFlags_reg, setReg_reg]
    · rw [putFlags_flags, dataFlags_eq]
  · exact ⟨_, exec_outPortCR r s, only_ioWrite s s.portBC (s.reg r)⟩

end Sys2Proof.Machine
end

section
/-! Proofs for the family 49_exchange_block.md: the exchanges of whole registers. An exchange between the two banks is
one replacement of both; what that leaves unchanged outside the banks is said once, and each exchange adds which
registers of the banks it keeps. -/

namespace Sys2Proof.Machine

/-! ### `EX DE,HL` (49_exchange_block.md R410) -/

theorem setDe_de (s : State) (w : Word) : (s.setDe w).de = w := setPair_pair s .de w

theorem setHl_de (s : State) (w : Word) : (s.setHl w).de = s.de := rfl

theorem only_setDe_setHl (s : State) (v w : Word) : OnlyRegs [.d, .e, .h, .l] s ((s.setDe v).setHl w) :=
  (only_setDe s v).trans (only_setHl _ w) (by simp) (by simp)

/-! ### Both banks replaced (R411, R412) -/

/-- Replacing the two banks reaches nothing but registers of the banks. -/
theorem only_setBanks {changed : List RegName} {s : State} {m n : Bank}
    (hregs : SameRegsBut changed s { s with main := m, alt := n }) :
    OnlyRegs changed s { s with main := m, alt := n } :=
  onlyReads_of_fields hregs rfl rfl rfl rfl rfl rfl rfl rfl rfl rfl

theorem only_setBanks_af (s : State) (a f a' f' : Byte) :
    OnlyRegs [.a, .f, .altA, .altF] s
      { s with main := { s.main with a := a, f := f }, alt := { s.alt with a := a', f := f' } } := by
  refine only_setBanks fun r hr => ?_
  cases r with
  | a | f | altA | altF => simp at hr
  | _ => rfl

theorem only_setBanks_keep_af (s : State) (m n : Bank) :
    OnlyRegs [.b, .c, .d, .e, .h, .l, .altB, .altC, .altD, .altE, .altH, .altL] s
      { s with main := { m with a := s.main.a, f := s.main.f }, alt := { n with a := s.alt.a, f := s.alt.f } } := by
  refine only_setBanks fun r hr => ?_
  cases r with
  | b | c | d | e | h | l | altB | altC | altD | altE | altH | altL => simp at hr
  | _ => rfl

/-- The second exchange puts back both pairs, all eight bits of F included. -/
theorem exec_exAfAf_exAfAf {s t : State} (h : exec .exAfAf s = .next t) : exec .exAfAf t = .next s := by
  rw [exec_exAfAf] at h
  cases h
  exact exec_exAfAf _

/-! ### Encodings (30_encoding.md) -/

theorem encodedAs_exDeHl (v : Variant) : EncodedAs v .exDeHl [0xEB] := by
  cases v <;> exact ⟨rfl, fun _ => rfl⟩

theorem encodedAs_exAfAf (v : Variant) : EncodedAs v .exAfAf [0x08] := by
  cases v <;> exact ⟨rfl, fun _ => rfl⟩

theorem encodedAs_exx (v : Variant) : EncodedAs v .exx [0xD9] := by
  cases v <;> exact ⟨rfl, fun _ => rfl⟩

/-! ### The obligations -/

/-- Settles O43: `EX DE,HL` is a write of DE and then of HL with the words of the old state; the other two exchanges
replace both banks, and the fields of the new banks are read off. -/
theorem exchanges : Obligations.Exchanges := by
  unfold Obligations.Exchanges
  refine ⟨fun v => ⟨encodedAs_exDeHl v, encodedAs_exAfAf v, encodedAs_exx v⟩, fun s => ?_, fun s => ?_, fun s => ?_⟩
  · refine ⟨_, exec_exDeHl s, ?_, setHl_hl _ _, only_setDe_setHl s _ _⟩
    rw [setHl_de, setDe_de]
  · exact ⟨_, exec_exAfAf s, rfl, rfl, rfl, rfl, only_setBanks_af s _ _ _ _, exec_exAfAf_exAfAf (exec_exAfAf s)⟩
  · exact ⟨_, exec_exx s, rfl, rfl, rfl, rfl, rfl, rfl, rfl, rfl, rfl, rfl, rfl, rfl,
      only_setBanks_keep_af s s.alt s.main⟩

end Sys2Proof.Machine
end

section
/-! Proofs about the decoder: the encodings of the forms that no earlier part needed, and that the decoder reads back
every instruction (30_encoding.md). First how the decoder reads the four-byte forms and the opcodes with a field; then
one lemma for each form, in the order of the families. -/

namespace Sys2Proof.Machine

/-! ### The forms DD CB d op and FD CB d op (30_encoding.md R95, R110) -/

/-- The decoder stops at the fourth byte of an indexed CB instruction. -/
theorem decode_xycb {x : Idx} {d byte : Byte} {i : Instr} (v : Variant) (hshape : xycbShape x d byte = .plain i)
    (rest : List Byte) : decode v (prefixByte x :: 0xCB :: d :: byte :: rest) = .ok (i, rest) := by
  have hneed : need v [prefixByte x, 0xCB, d, byte] = .complete i := by
    cases x <;> exact congrArg (Shape.need · .undefinedIndexedCb []) hshape
  cases x <;> exact decodeLoop_of_complete hneed 0 rest

/-- An indexed CB instruction with a bit number: its meaning is fixed by bits 7 and 6 and bits 2 to 0 of `op`, and the
bit number by the field between them. -/
theorem encodedAs_xycbField {f : BitVec 3 → Instr} {op : Byte} (v : Variant) (b : BitVec 3) (x : Idx) (d : Byte)
    (hclear : fieldY op = 0) (hencode : encode (f b) = [prefixByte x, 0xCB, d, withField op (b.zeroExtend 8) 3])
    (hshape : ∀ byte : Byte, byte.extractLsb' 6 2 = op.extractLsb' 6 2 → fieldZ byte = fieldZ op →
      xycbShape x d byte = .plain (f (fieldY byte))) :
    EncodedAs v (f b) [prefixByte x, 0xCB, d, withField op (b.zeroExtend 8) 3] := by
  obtain ⟨htop, hlow⟩ := extractLsb'_withField_other op b
  have hplain := hshape _ htop hlow
  rw [fieldY_withField hclear] at hplain
  exact ⟨hencode, decode_xycb v hplain⟩

theorem encodedAs_rotAtXyd (v : Variant) (op : Rot) (x : Idx) (d : Byte) :
    EncodedAs v (Form.rotAtXyd op x d) [prefixByte x, 0xCB, d, rotCode op <<< 3 ||| 6] := by
  refine ⟨?_, decode_xycb v ?_⟩
  · cases op <;> cases x <;> rfl
  · cases op <;> rfl

theorem encodedAs_bitAtXyd (v : Variant) (b : BitVec 3) (x : Idx) (d : Byte) :
    EncodedAs v (Form.bitAtXyd b x d) [prefixByte x, 0xCB, d, 0x46 ||| b.zeroExtend 8 <<< 3] := by
  refine encodedAs_xycbField (f := (Form.bitAtXyd · x d)) (op := 0x46) v b x d rfl ?_ fun byte htop hlow => ?_
  · cases x <;> rfl
  · rw [xycbShape, htop, hlow]
    rfl

theorem encodedAs_resAtXyd (v : Variant) (b : BitVec 3) (x : Idx) (d : Byte) :
    EncodedAs v (Form.resAtXyd b x d) [prefixByte x, 0xCB, d, 0x86 ||| b.zeroExtend 8 <<< 3] := by
  refine encodedAs_xycbField (f := (Form.resAtXyd · x d)) (op := 0x86) v b x d rfl ?_ fun byte htop hlow => ?_
  · cases x <;> rfl
  · rw [xycbShape, htop, hlow]
    rfl

theorem encodedAs_setAtXyd (v : Variant) (b : BitVec 3) (x : Idx) (d : Byte) :
    EncodedAs v (Form.setAtXyd b x d) [prefixByte x, 0xCB, d, 0xC6 ||| b.zeroExtend 8 <<< 3] := by
  refine encodedAs_xycbField (f := (Form.setAtXyd · x d)) (op := 0xC6) v b x d rfl ?_ fun byte htop hlow => ?_
  · cases x <;> rfl
  · rw [xycbShape, htop, hlow]
    rfl

/-! ### `BIT` (30_encoding.md R107) -/

theorem encodedAs_bitR (v : Variant) (b : BitVec 3) (r : Reg8) :
    EncodedAs v (Form.bitR b r) [0xCB, 0x40 ||| b.zeroExtend 8 <<< 3 ||| regCode r] := by
  rw [or_bitNumber_or_regCode]
  refine encodedAs_cbField (f := (Form.bitR · r)) (op := 0x40 ||| regCode r) v b ?_ ?_ fun byte htop hlow => ?_
  · cases r <;> rfl
  · cases r <;> rfl
  · rw [cbShape, htop, hlow]
    cases r <;> rfl

theorem encodedAs_bitAtHl (v : Variant) (b : BitVec 3) :
    EncodedAs v (.bitAtHl b) [0xCB, 0x46 ||| b.zeroExtend 8 <<< 3] :=
  encodedAs_cbField (op := 0x46) v b rfl rfl fun byte htop hlow => by
    rw [cbShape, htop, hlow]
    rfl

/-! ### 8-bit loads (43_load8.md) -/

/-- 64h is `LD H,H` on the TSK80A only (30_encoding.md R111). -/
theorem encodedAs_ldRR (v : Variant) (r1 r2 : Reg8) (hv : v = .tsk80aD → ¬(r1 = .h ∧ r2 = .h)) :
    EncodedAs v (Form.ldRR r1 r2) [0x40 ||| regCode r1 <<< 3 ||| regCode r2] := by
  cases v with
  | tsk80a => cases r1 <;> cases r2 <;> exact ⟨rfl, fun _ => rfl⟩
  | tsk80aD =>
    by_cases h : r1 = .h ∧ r2 = .h
    · exact absurd h (hv rfl)
    · cases r1 <;> cases r2 <;> first | exact absurd ⟨rfl, rfl⟩ h | exact ⟨rfl, fun _ => rfl⟩

theorem encodedAs_ldRN (v : Variant) (r : Reg8) (n : Byte) :
    EncodedAs v (Form.ldRN r n) [0x06 ||| regCode r <<< 3, n] := by
  cases v <;> cases r <;> exact ⟨rfl, fun _ => rfl⟩

theorem encodedAs_ldRAtXyd (v : Variant) (r : Reg8) (x : Idx) (d : Byte) :
    EncodedAs v (Form.ldRAtXyd r x d) [prefixByte x, 0x46 ||| regCode r <<< 3, d] := by
  cases v <;> cases r <;> cases x <;> exact ⟨rfl, fun _ => rfl⟩

theorem encodedAs_ldAtXydR (v : Variant) (x : Idx) (d : Byte) (r : Reg8) :
    EncodedAs v (Form.ldAtXydR x d r) [prefixByte x, 0x70 ||| regCode r, d] := by
  cases v <;> cases x <;> cases r <;> exact ⟨rfl, fun _ => rfl⟩

theorem encodedAs_ldAtXydN (v : Variant) (x : Idx) (d n : Byte) :
    EncodedAs v (Form.ldAtXydN x d n) [prefixByte x, 0x36, d, n] := by
  cases v <;> cases x <;> exact ⟨rfl, fun _ => rfl⟩

/-! ### 16-bit loads and the stack (44_load16.md) -/

theorem encodedAs_ldAtNnHl (v : Variant) (nn : Word) : EncodedAs v (.ldAtNnHl nn) [0x22, lo nn, hi nn] :=
  encodedAs_imm16 [0x22] nn rfl (by cases v <;> exact fun _ _ _ => rfl)

theorem encodedAs_ldHlAtNn (v : Variant) (nn : Word) : EncodedAs v (.ldHlAtNn nn) [0x2A, lo nn, hi nn] :=
  encodedAs_imm16 [0x2A] nn rfl (by cases v <;> exact fun _ _ _ => rfl)

theorem encodedAs_ldAtNnPp (v : Variant) (nn : Word) (p : Pair) :
    EncodedAs v (.ldAtNnPp nn p) [0xED, 0x43 ||| p.code <<< 4, lo nn, hi nn] := by
  refine encodedAs_imm16 (f := (.ldAtNnPp · p)) [0xED, 0x43 ||| p.code <<< 4] nn ?_ ?_
  · cases p <;> rfl
  · cases v <;> cases p <;> exact fun _ _ _ => rfl

theorem encodedAs_ldPpAtNn (v : Variant) (p : Pair) (nn : Word) :
    EncodedAs v (.ldPpAtNn p nn) [0xED, 0x4B ||| p.code <<< 4, lo nn, hi nn] := by
  refine encodedAs_imm16 [0xED, 0x4B ||| p.code <<< 4] nn ?_ ?_
  · cases p <;> rfl
  · cases v <;> cases p <;> exact fun _ _ _ => rfl

theorem encodedAs_ldAtNnXy (v : Variant) (nn : Word) (x : Idx) :
    EncodedAs v (Form.ldAtNnXy nn x) [prefixByte x, 0x22, lo nn, hi nn] := by
  refine encodedAs_imm16 (f := (Form.ldAtNnXy · x)) [prefixByte x, 0x22] nn ?_ ?_
  · cases x <;> rfl
  · cases v <;> cases x <;> exact fun _ _ _ => rfl

theorem encodedAs_ldXyAtNn (v : Variant) (x : Idx) (nn : Word) :
    EncodedAs v (Form.ldXyAtNn x nn) [prefixByte x, 0x2A, lo nn, hi nn] := by
  refine encodedAs_imm16 [prefixByte x, 0x2A] nn ?_ ?_
  · cases x <;> rfl
  · cases v <;> cases x <;> exact fun _ _ _ => rfl

theorem encodedAs_pushQq (v : Variant) (q : PairQ) : EncodedAs v (.pushQq q) [0xC5 ||| q.code <<< 4] := by
  cases v <;> cases q <;> exact ⟨rfl, fun _ => rfl⟩

theorem encodedAs_popQq (v : Variant) (q : PairQ) : EncodedAs v (.popQq q) [0xC1 ||| q.code <<< 4] := by
  cases v <;> cases q <;> exact ⟨rfl, fun _ => rfl⟩

theorem encodedAs_pushXy (v : Variant) (x : Idx) : EncodedAs v (Form.pushXy x) [prefixByte x, 0xE5] := by
  cases v <;> cases x <;> exact ⟨rfl, fun _ => rfl⟩

theorem encodedAs_popXy (v : Variant) (x : Idx) : EncodedAs v (Form.popXy x) [prefixByte x, 0xE1] := by
  cases v <;> cases x <;> exact ⟨rfl, fun _ => rfl⟩

/-! ### Arithmetic and control (40_arith8.md, 41_arith16.md, 45_general_control.md) -/

theorem encodedAs_incAtXyd (v : Variant) (x : Idx) (d : Byte) :
    EncodedAs v (Form.incAtXyd x d) [prefixByte x, 0x34, d] := by
  cases v <;> cases x <;> exact ⟨rfl, fun _ => rfl⟩

theorem encodedAs_decAtXyd (v : Variant) (x : Idx) (d : Byte) :
    EncodedAs v (Form.decAtXyd x d) [prefixByte x, 0x35, d] := by
  cases v <;> cases x <;> exact ⟨rfl, fun _ => rfl⟩

theorem encodedAs_adcHlPp (v : Variant) (p : Pair) : EncodedAs v (.adcHlPp p) [0xED, 0x4A ||| p.code <<< 4] := by
  cases v <;> cases p <;> exact ⟨rfl, fun _ => rfl⟩

theorem encodedAs_sbcHlPp (v : Variant) (p : Pair) : EncodedAs v (.sbcHlPp p) [0xED, 0x42 ||| p.code <<< 4] := by
  cases v <;> cases p <;> exact ⟨rfl, fun _ => rfl⟩

theorem encodedAs_daa (v : Variant) : EncodedAs v .daa [0x27] := by
  cases v <;> exact ⟨rfl, fun _ => rfl⟩

theorem encodedAs_ccf (v : Variant) : EncodedAs v .ccf [0x3F] := by
  cases v <;> exact ⟨rfl, fun _ => rfl⟩

theorem encodedAs_halt (v : Variant) : EncodedAs v .halt [0x76] := by
  cases v <;> exact ⟨rfl, fun _ => rfl⟩

theorem encodedAs_ei (v : Variant) : EncodedAs v .ei [0xFB] := by
  cases v <;> exact ⟨rfl, fun _ => rfl⟩

theorem encodedAs_trap : EncodedAs .tsk80aD .trap [0xED, 0x00] := ⟨rfl, fun _ => rfl⟩

theorem encodedAs_breakpoint64 : EncodedAs .tsk80aD .breakpoint64 [0x64] := ⟨rfl, fun _ => rfl⟩

/-! ### Calls, restarts and returns (46_jump_call_return.md) -/

theorem encodedAs_callNn (v : Variant) (nn : Word) : EncodedAs v (.callNn nn) [0xCD, lo nn, hi nn] :=
  encodedAs_imm16 [0xCD] nn rfl (by cases v <;> exact fun _ _ _ => rfl)

theorem encodedAs_callCcNn (v : Variant) (cc : Cond) (nn : Word) :
    EncodedAs v (.callCcNn cc nn) [0xC4 ||| cc.code <<< 3, lo nn, hi nn] := by
  refine encodedAs_imm16 [0xC4 ||| cc.code <<< 3] nn ?_ ?_
  · cases cc <;> rfl
  · cases v <;> cases cc <;> exact fun _ _ _ => rfl

theorem encodedAs_retn (v : Variant) : EncodedAs v .retn [0xED, 0x45] := by
  cases v <;> exact ⟨rfl, fun _ => rfl⟩

/-- The restart addresses are the eight multiples of 8 below 64 (30_encoding.md R104). -/
theorem isRestart_iff (p : Byte) : isRestart p = true ↔
    p = 0x00 ∨ p = 0x08 ∨ p = 0x10 ∨ p = 0x18 ∨ p = 0x20 ∨ p = 0x28 ∨ p = 0x30 ∨ p = 0x38 := by
  revert p
  decide

theorem isRestart_field (ttt : BitVec 3) : isRestart (ttt.zeroExtend 8 <<< 3) = true := by
  revert ttt
  decide

theorem encodedAs_rstP (v : Variant) {p : Byte} (hp : isRestart p = true) : EncodedAs v (.rstP p) [0xC7 ||| p] := by
  rw [isRestart_iff] at hp
  obtain rfl | rfl | rfl | rfl | rfl | rfl | rfl | rfl := hp <;> cases v <;> exact ⟨rfl, fun _ => rfl⟩

/-! ### Block input and output, exchange of the stack top, block transfer and search (48_io.md, 49_exchange_block.md) -/

theorem encodedAs_exAtSpHl (v : Variant) : EncodedAs v .exAtSpHl [0xE3] := by
  cases v <;> exact ⟨rfl, fun _ => rfl⟩

theorem encodedAs_exAtSpXy (v : Variant) (x : Idx) : EncodedAs v (Form.exAtSpXy x) [prefixByte x, 0xE3] := by
  cases v <;> cases x <;> exact ⟨rfl, fun _ => rfl⟩

/-- The four block loads, block compares, block inputs and block outputs, with their second byte (R108). -/
def blockCodes : List (Instr × Byte) :=
  [(.ldi, 0xA0), (.ldir, 0xB0), (.ldd, 0xA8), (.lddr, 0xB8), (.cpi, 0xA1), (.cpir, 0xB1), (.cpd, 0xA9), (.cpdr, 0xB9),
    (.ini, 0xA2), (.inir, 0xB2), (.ind, 0xAA), (.indr, 0xBA), (.outi, 0xA3), (.otir, 0xB3), (.outd, 0xAB), (.otdr, 0xBB)]

theorem encodedAs_block (v : Variant) {i : Instr} {code : Byte} (h : (i, code) ∈ blockCodes) :
    EncodedAs v i [0xED, code] := by
  simp only [blockCodes, List.mem_cons, List.not_mem_nil, or_false, Prod.mk.injEq] at h
  obtain ⟨rfl, rfl⟩ | ⟨rfl, rfl⟩ | ⟨rfl, rfl⟩ | ⟨rfl, rfl⟩ | ⟨rfl, rfl⟩ | ⟨rfl, rfl⟩ | ⟨rfl, rfl⟩ | ⟨rfl, rfl⟩ |
    ⟨rfl, rfl⟩ | ⟨rfl, rfl⟩ | ⟨rfl, rfl⟩ | ⟨rfl, rfl⟩ | ⟨rfl, rfl⟩ | ⟨rfl, rfl⟩ | ⟨rfl, rfl⟩ | ⟨rfl, rfl⟩ := h <;>
    cases v <;> exact ⟨rfl, fun _ => rfl⟩

/-! ### Every instruction -/

/-- Bytes that encode an instruction are the ones the encoder gives. -/
theorem EncodedAs.self {v : Variant} {i : Instr} {bytes : List Byte} (h : EncodedAs v i bytes) :
    EncodedAs v i (encode i) := h.1.symm ▸ h

/-- Every instruction of a family member is read back from its encoding. -/
theorem encodedAs_encode {v : Variant} (i : Instr) : wellFormed v i = true → EncodedAs v i (encode i) := by
  induction i using instr_forms with
  | h_ldRR r1 r2 => exact fun hwf => (encodedAs_ldRR v r1 r2 fun hv hh => by rw [hv, hh.1, hh.2] at hwf; cases hwf).self
  | h_ldRN r n => exact fun _ => (encodedAs_ldRN v r n).self
  | h_ldRAtHl r => exact fun _ => (encodedAs_ldRAtHl v r).self
  | h_ldAtHlR r => exact fun _ => (encodedAs_ldAtHlR v r).self
  | h_ldRAtXyd r x d => exact fun _ => (encodedAs_ldRAtXyd v r x d).self
  | h_ldAtXydR x d r => exact fun _ => (encodedAs_ldAtXydR v x d r).self
  | h_ldAtXydN x d n => exact fun _ => (encodedAs_ldAtXydN v x d n).self
  | h_aluR op r => exact fun _ => (encodedAs_aluInstr v op (.reg r)).self
  | h_aluN op n => exact fun _ => (encodedAs_aluInstr v op (.imm n)).self
  | h_aluAtHl op => exact fun _ => (encodedAs_aluInstr v op .atHl).self
  | h_aluAtXyd op x d => exact fun _ => (encodedAs_aluInstr v op (.atXyd x d)).self
  | h_incR r => exact fun _ => (encodedAs_incR v r).self
  | h_incAtXyd x d => exact fun _ => (encodedAs_incAtXyd v x d).self
  | h_decR r => exact fun _ => (encodedAs_decR v r).self
  | h_decAtXyd x d => exact fun _ => (encodedAs_decAtXyd v x d).self
  | h_rotR op r => exact fun _ => (encodedAs_rotR v op r).self
  | h_rotAtHl op => exact fun _ => (encodedAs_rotAtHl v op).self
  | h_rotAtXyd op x d => exact fun _ => (encodedAs_rotAtXyd v op x d).self
  | h_bitR b r => exact fun _ => (encodedAs_bitR v b r).self
  | h_bitAtXyd b x d => exact fun _ => (encodedAs_bitAtXyd v b x d).self
  | h_resR b r => exact fun _ => (encodedAs_resR v b r).self
  | h_resAtXyd b x d => exact fun _ => (encodedAs_resAtXyd v b x d).self
  | h_setR b r => exact fun _ => (encodedAs_setR v b r).self
  | h_setAtXyd b x d => exact fun _ => (encodedAs_setAtXyd v b x d).self
  | h_inRPortC r => exact fun _ => (encodedAs_inRPortC v r).self
  | h_outPortCR r => exact fun _ => (encodedAs_outPortCR v r).self
  | h_addXyPp x p => exact fun _ => (encodedAs_addXyPp v x p).self
  | h_ldXyNn x nn => exact fun _ => (encodedAs_ldXyNn v x nn).self
  | h_ldAtNnXy nn x => exact fun _ => (encodedAs_ldAtNnXy v nn x).self
  | h_ldXyAtNn x nn => exact fun _ => (encodedAs_ldXyAtNn v x nn).self
  | h_incXy x => exact fun _ => (encodedAs_incXy v x).self
  | h_decXy x => exact fun _ => (encodedAs_decXy v x).self
  | h_popXy x => exact fun _ => (encodedAs_popXy v x).self
  | h_pushXy x => exact fun _ => (encodedAs_pushXy v x).self
  | h_jpXy x => exact fun _ => (encodedAs_jpXy v x).self
  | h_exAtSpXy x => exact fun _ => (encodedAs_exAtSpXy v x).self
  | h_ldSpXy x => exact fun _ => (encodedAs_ldSpXy v x).self
  | h_nop => exact fun _ => (encodedAs_nop v).self
  | h_ldPpNn p nn => exact fun _ => (encodedAs_ldPpNn v p nn).self
  | h_ldAtBcA => exact fun _ => (encodedAs_ldAtBcA v).self
  | h_ldAtDeA => exact fun _ => (encodedAs_ldAtDeA v).self
  | h_ldAtNnHl nn => exact fun _ => (encodedAs_ldAtNnHl v nn).self
  | h_ldAtNnA nn => exact fun _ => (encodedAs_ldAtNnA v nn).self
  | h_incPp p => exact fun _ => (encodedAs_incPp v p).self
  | h_decPp p => exact fun _ => (encodedAs_decPp v p).self
  | h_addHlPp p => exact fun _ => (encodedAs_addHlPp v p).self
  | h_incAtHl => exact fun _ => (encodedAs_incAtHl v).self
  | h_decAtHl => exact fun _ => (encodedAs_decAtHl v).self
  | h_ldAtHlN n => exact fun _ => (encodedAs_ldAtHlN v n).self
  | h_rlca => exact fun _ => (encodedAs_rlca v).self
  | h_rrca => exact fun _ => (encodedAs_rrca v).self
  | h_rla => exact fun _ => (encodedAs_rla v).self
  | h_rra => exact fun _ => (encodedAs_rra v).self
  | h_daa => exact fun _ => (encodedAs_daa v).self
  | h_cpl => exact fun _ => (encodedAs_cpl v).self
  | h_scf => exact fun _ => (encodedAs_scf v).self
  | h_ccf => exact fun _ => (encodedAs_ccf v).self
  | h_exAfAf => exact fun _ => (encodedAs_exAfAf v).self
  | h_ldAAtBc => exact fun _ => (encodedAs_ldAAtBc v).self
  | h_ldAAtDe => exact fun _ => (encodedAs_ldAAtDe v).self
  | h_ldHlAtNn nn => exact fun _ => (encodedAs_ldHlAtNn v nn).self
  | h_ldAAtNn nn => exact fun _ => (encodedAs_ldAAtNn v nn).self
  | h_djnzE e => exact fun _ => (encodedAs_djnzE v e).self
  | h_jrE e => exact fun _ => (encodedAs_jrE v e).self
  | h_jrCcE cc e => exact fun _ => (encodedAs_jrCcE v cc e).self
  | h_breakpoint64 =>
    cases v with
    | tsk80a => exact fun hwf => absurd hwf Bool.false_ne_true
    | tsk80aD => exact fun _ => encodedAs_breakpoint64.self
  | h_halt => exact fun _ => (encodedAs_halt v).self
  | h_retCc cc => exact fun _ => (encodedAs_retCc v cc).self
  | h_popQq q => exact fun _ => (encodedAs_popQq v q).self
  | h_jpCcNn cc nn => exact fun _ => (encodedAs_jpCcNn v cc nn).self
  | h_jpNn nn => exact fun _ => (encodedAs_jpNn v nn).self
  | h_callCcNn cc nn => exact fun _ => (encodedAs_callCcNn v cc nn).self
  | h_pushQq q => exact fun _ => (encodedAs_pushQq v q).self
  | h_rstP p => exact fun hwf => (encodedAs_rstP v hwf).self
  | h_ret => exact fun _ => (encodedAs_ret v).self
  | h_callNn nn => exact fun _ => (encodedAs_callNn v nn).self
  | h_outPortNA n => exact fun _ => (encodedAs_outPortNA v n).self
  | h_inAPortN n => exact fun _ => (encodedAs_inAPortN v n).self
  | h_exx => exact fun _ => (encodedAs_exx v).self
  | h_exAtSpHl => exact fun _ => (encodedAs_exAtSpHl v).self
  | h_jpHl => exact fun _ => (encodedAs_jpHl v).self
  | h_exDeHl => exact fun _ => (encodedAs_exDeHl v).self
  | h_di => exact fun _ => (encodedAs_di v).self
  | h_ldSpHl => exact fun _ => (encodedAs_ldSpHl v).self
  | h_ei => exact fun _ => (encodedAs_ei v).self
  | h_bitAtHl b => exact fun _ => (encodedAs_bitAtHl v b).self
  | h_resAtHl b => exact fun _ => (encodedAs_resAtHl v b).self
  | h_setAtHl b => exact fun _ => (encodedAs_setAtHl v b).self
  | h_trap =>
    cases v with
    | tsk80a => exact fun hwf => absurd hwf Bool.false_ne_true
    | tsk80aD => exact fun _ => encodedAs_trap.self
  | h_sbcHlPp p => exact fun _ => (encodedAs_sbcHlPp v p).self
  | h_adcHlPp p => exact fun _ => (encodedAs_adcHlPp v p).self
  | h_ldAtNnPp nn p => exact fun _ => (encodedAs_ldAtNnPp v nn p).self
  | h_ldPpAtNn p nn => exact fun _ => (encodedAs_ldPpAtNn v p nn).self
  | h_neg => exact fun _ => (encodedAs_neg v).self
  | h_retn => exact fun _ => (encodedAs_retn v).self
  | h_im0 => exact fun _ => (encodedAs_im0 v).self
  | h_im1 => exact fun _ => (encodedAs_im1 v).self
  | h_im2 => exact fun _ => (encodedAs_im2 v).self
  | h_ldIA => exact fun _ => (encodedAs_ldIA v).self
  | h_ldAI => exact fun _ => (encodedAs_ldAI v).self
  | h_reti => exact fun _ => (encodedAs_reti v).self
  | h_rrd => exact fun _ => (encodedAs_rrd v).self
  | h_rld => exact fun _ => (encodedAs_rld v).self
  | h_ldi => exact fun _ => (encodedAs_block (code := 0xA0) v (by simp [blockCodes])).self
  | h_cpi => exact fun _ => (encodedAs_block (code := 0xA1) v (by simp [blockCodes])).self
  | h_ini => exact fun _ => (encodedAs_block (code := 0xA2) v (by simp [blockCodes])).self
  | h_outi => exact fun _ => (encodedAs_block (code := 0xA3) v (by simp [blockCodes])).self
  | h_ldd => exact fun _ => (encodedAs_block (code := 0xA8) v (by simp [blockCodes])).self
  | h_cpd => exact fun _ => (encodedAs_block (code := 0xA9) v (by simp [blockCodes])).self
  | h_ind => exact fun _ => (encodedAs_block (code := 0xAA) v (by simp [blockCodes])).self
  | h_outd => exact fun _ => (encodedAs_block (code := 0xAB) v (by simp [blockCodes])).self
  | h_ldir => exact fun _ => (encodedAs_block (code := 0xB0) v (by simp [blockCodes])).self
  | h_cpir => exact fun _ => (encodedAs_block (code := 0xB1) v (by simp [blockCodes])).self
  | h_inir => exact fun _ => (encodedAs_block (code := 0xB2) v (by simp [blockCodes])).self
  | h_otir => exact fun _ => (encodedAs_block (code := 0xB3) v (by simp [blockCodes])).self
  | h_lddr => exact fun _ => (encodedAs_block (code := 0xB8) v (by simp [blockCodes])).self
  | h_cpdr => exact fun _ => (encodedAs_block (code := 0xB9) v (by simp [blockCodes])).self
  | h_indr => exact fun _ => (encodedAs_block (code := 0xBA) v (by simp [blockCodes])).self
  | h_otdr => exact fun _ => (encodedAs_block (code := 0xBB) v (by simp [blockCodes])).self

/-- Settles O54: each form of instruction has its encoding lemma, and together the forms are all instructions. -/
theorem decodeOfEncode : Obligations.DecodeOfEncode := by
  unfold Obligations.DecodeOfEncode
  exact fun _ i rest hwf => (encodedAs_encode i hwf).2 rest

end Sys2Proof.Machine
end

section
/-! Proofs about all instructions at once: each completes, which of them write the control state, and that memory stays
in its canonical form. First a relation between two states that every data operation keeps, one lemma for each
operation; then one pass over the forms of instruction says what all but twelve of them do; then the twelve. -/

namespace Sys2Proof.Machine

/-! ### What a data operation leaves alone -/

/-- The part of the state that only the named instructions write (10_state.md), `pc` apart. -/
structure ControlPart where
  alt : Bank
  ireg : Byte
  iff1 : Bool
  iff2 : Bool
  im : IntMode
  eiShadow : Bool
  nmiPending : Bool
  halted : Bool
  busGranted : Bool
  debugStopped : Bool
  platform : Platform
  debugEnable : Bool
  inputs : List Boundary

/-- The control part of a state. -/
def State.control (s : State) : ControlPart where
  alt := s.alt
  ireg := s.ireg
  iff1 := s.iff1
  iff2 := s.iff2
  im := s.im
  eiShadow := s.eiShadow
  nmiPending := s.nmiPending
  halted := s.halted
  busGranted := s.busGranted
  debugStopped := s.debugStopped
  platform := s.platform
  debugEnable := s.debugEnable
  inputs := s.inputs

/-- From `s` to `t` the control part is kept, and so is the canonical form of memory (R42). -/
structure Keeps (s t : State) : Prop where
  control : t.control = s.control
  wf : Memory.wf s.mem = true → Memory.wf t.mem = true

/-- `Keeps`, and `pc` is kept as well. -/
structure KeepsPc (s t : State) : Prop extends Keeps s t where
  pc : t.pc = s.pc

theorem Keeps.refl (s : State) : Keeps s s := ⟨rfl, id⟩

theorem Keeps.trans {s t u : State} (h1 : Keeps s t) (h2 : Keeps t u) : Keeps s u :=
  ⟨h2.control.trans h1.control, h2.wf ∘ h1.wf⟩

theorem KeepsPc.refl (s : State) : KeepsPc s s := ⟨Keeps.refl s, rfl⟩

theorem KeepsPc.trans {s t u : State} (h1 : KeepsPc s t) (h2 : KeepsPc t u) : KeepsPc s u :=
  ⟨h1.toKeeps.trans h2.toKeeps, h2.pc.trans h1.pc⟩

theorem Keeps.ite {s t u : State} {test : Bool} (h1 : Keeps s t) (h2 : Keeps s u) :
    Keeps s (if test then t else u) := by
  cases test with
  | true => exact h1
  | false => exact h2

theorem keepsPc_setReg (s : State) (r : Reg8) (v : Byte) : KeepsPc s (s.setReg r v) :=
  ⟨⟨by simp [State.control], by simp⟩, by simp⟩

theorem keepsPc_setPair (s : State) (p : Pair) (w : Word) : KeepsPc s (s.setPair p w) :=
  ⟨⟨by simp [State.control], by simp⟩, by simp⟩

theorem keepsPc_setPairQ (s : State) (q : PairQ) (w : Word) : KeepsPc s (s.setPairQ q w) :=
  ⟨⟨by simp [State.control], by simp⟩, by simp⟩

theorem keepsPc_setIdx (s : State) (x : Idx) (w : Word) : KeepsPc s (s.setIdx x w) :=
  ⟨⟨by simp [State.control], by simp⟩, by simp⟩

theorem keepsPc_setSp (s : State) (w : Word) : KeepsPc s (s.setSp w) := ⟨⟨rfl, id⟩, rfl⟩

theorem keepsPc_putFlagsWith (s : State) (fl : Flags) (f5 f3 : Bool) : KeepsPc s (s.putFlagsWith fl f5 f3) :=
  ⟨⟨rfl, id⟩, rfl⟩

theorem keepsPc_putFlags (s : State) (fl : Flags) : KeepsPc s (s.putFlags fl) := ⟨⟨rfl, id⟩, rfl⟩

theorem keepsPc_memRead (s : State) (a : Word) : KeepsPc s (s.memRead a) :=
  ⟨⟨by simp [State.control], by simp⟩, by simp⟩

theorem keepsPc_memWrite (s : State) (a : Word) (v : Byte) : KeepsPc s (s.memWrite a v) :=
  ⟨⟨by simp [State.control], memWrite_wf s a v⟩, by simp⟩

theorem keepsPc_ioRead (s : State) (p : Word) : KeepsPc s (s.ioRead p) :=
  ⟨⟨by simp [State.control], by simp⟩, by simp⟩

theorem keepsPc_ioWrite (s : State) (p : Word) (v : Byte) : KeepsPc s (s.ioWrite p v) := ⟨⟨rfl, id⟩, rfl⟩

theorem keepsPc_operandRead (s : State) (o : Operand) : KeepsPc s (s.operandRead o) :=
  ⟨⟨by simp [State.control], by simp⟩, by simp⟩

theorem keepsPc_memRead16 (s : State) (a : Word) : KeepsPc s (s.memRead16 a) :=
  (keepsPc_memRead s a).trans (keepsPc_memRead _ (a + 1))

theorem keepsPc_memWrite16 (s : State) (a w : Word) : KeepsPc s (s.memWrite16 a w) :=
  (keepsPc_memWrite s a _).trans (keepsPc_memWrite _ (a + 1) _)

theorem keepsPc_push16 (s : State) (w : Word) : KeepsPc s (s.push16 w) :=
  ((keepsPc_memWrite s _ _).trans (keepsPc_memWrite _ _ _)).trans (keepsPc_setSp _ _)

theorem keepsPc_pop16 (s : State) : KeepsPc s s.pop16 := (keepsPc_memRead16 s s.sp).trans (keepsPc_setSp _ _)

theorem keeps_setPc (s : State) (w : Word) : Keeps s (s.setPc w) := ⟨rfl, id⟩

theorem keeps_jumpRel (s : State) (e : Byte) : Keeps s (s.jumpRel e) := keeps_setPc s _

theorem keeps_enterAt (s : State) (w : Word) : Keeps s (s.enterAt w) :=
  (keepsPc_push16 s s.pc).toKeeps.trans (keeps_setPc _ w)

theorem keeps_popPc (s : State) : Keeps s s.popPc := (keepsPc_pop16 s).toKeeps.trans (keeps_setPc _ _)

theorem keepsPc_changeReg (s : State) (r : Reg8) (v : Byte) (fl : Flags) : KeepsPc s (s.changeReg r v fl) :=
  (keepsPc_setReg s r v).trans (keepsPc_putFlags _ fl)

theorem keepsPc_memRead_memWrite (s : State) (a : Word) (v : Byte) : KeepsPc s ((s.memRead a).memWrite a v) :=
  (keepsPc_memRead s a).trans (keepsPc_memWrite _ a v)

theorem keepsPc_changeMem (s : State) (a : Word) (v : Byte) (fl : Flags) : KeepsPc s (s.changeMem a v fl) :=
  (keepsPc_memRead_memWrite s a v).trans (keepsPc_putFlags _ fl)

theorem keepsPc_alu (s : State) (op : Alu) (o : Operand) : KeepsPc s (s.alu op o) :=
  (keepsPc_operandRead s o).trans (keepsPc_changeReg _ .a _ _)

theorem keepsPc_loadReg (s : State) (r : Reg8) (o : Operand) : KeepsPc s (s.loadReg r o) :=
  (keepsPc_operandRead s o).trans (keepsPc_setReg _ r _)

theorem keepsPc_testBit (s : State) (b : BitVec 3) (o : Operand) : KeepsPc s (s.testBit b o) :=
  (keepsPc_operandRead s o).trans (keepsPc_putFlags _ _)

theorem keepsPc_rotateDigits (s : State) (m v : Byte) : KeepsPc s (s.rotateDigits m v) :=
  (((keepsPc_memRead s _).trans (keepsPc_setReg _ .a v)).trans (keepsPc_memWrite _ _ m)).trans
    (keepsPc_putFlags _ _)

theorem keepsPc_setIdx_putFlags (s : State) (x : Idx) (w : Word) (fl : Flags) :
    KeepsPc s ((s.setIdx x w).putFlags fl) := (keepsPc_setIdx s x w).trans (keepsPc_putFlags _ fl)

theorem keepsPc_setHl_putFlags (s : State) (w : Word) (fl : Flags) : KeepsPc s ((s.setHl w).putFlags fl) :=
  (keepsPc_setPair s .hl w).trans (keepsPc_putFlags _ fl)

theorem keepsPc_exchangeTop (s : State) (w : Word) : KeepsPc s (s.exchangeTop w) :=
  ((keepsPc_memRead16 s _).trans (keepsPc_memWrite _ _ _)).trans (keepsPc_memWrite _ _ _)

theorem keepsPc_loadPair (s : State) (p : Pair) (a : Word) : KeepsPc s (s.loadPair p a) :=
  (keepsPc_memRead16 s a).trans (keepsPc_setPair _ p _)

theorem keepsPc_loadIdx (s : State) (x : Idx) (a : Word) : KeepsPc s (s.loadIdx x a) :=
  (keepsPc_memRead16 s a).trans (keepsPc_setIdx _ x _)

theorem keepsPc_decimalAdjust (s : State) : KeepsPc s s.decimalAdjust := ⟨⟨rfl, id⟩, rfl⟩

theorem keepsPc_ldStep (s : State) (dir : Word) : KeepsPc s (s.ldStep dir) :=
  (((((keepsPc_memRead s _).trans (keepsPc_memWrite _ _ _)).trans (keepsPc_setPair _ .hl _)).trans
    (keepsPc_setPair _ .de _)).trans (keepsPc_setPair _ .bc _)).trans (keepsPc_putFlags _ _)

theorem keepsPc_cpStep (s : State) (dir : Word) : KeepsPc s (s.cpStep dir) :=
  (((keepsPc_memRead s _).trans (keepsPc_setPair _ .hl _)).trans (keepsPc_setPair _ .bc _)).trans
    (keepsPc_putFlags _ _)

theorem keepsPc_ioInStep (s : State) (dir : Word) : KeepsPc s (s.ioInStep dir) :=
  (((keepsPc_ioRead s _).trans (keepsPc_memWrite _ _ _)).trans (keepsPc_setPair _ .hl _)).trans
    (keepsPc_setReg _ .b _)

theorem keepsPc_ioIn (s : State) (dir : Word) : KeepsPc s (s.ioIn dir) :=
  (keepsPc_ioInStep s dir).trans (keepsPc_putFlags _ _)

theorem keepsPc_ioOut (s : State) (dir : Word) : KeepsPc s (s.ioOut dir) :=
  ((((keepsPc_memRead s _).trans (keepsPc_setReg _ .b _)).trans (keepsPc_ioWrite _ _ _)).trans
    (keepsPc_setPair _ .hl _)).trans (keepsPc_putFlags _ _)

theorem Keeps.repeatWhen {s t : State} (h : Keeps s t) (again : Bool) : Keeps s (t.repeatWhen again) :=
  h.trans ((keeps_setPc t _).ite (Keeps.refl t))

/-! ### What an instruction does to the control state -/

/-- The instructions that write the control part. -/
def controlWriters : List Instr :=
  [.trap, .breakpoint64, .retn, .exAfAf, .exx, .ldIA, .im0, .im1, .im2, .ei, .di, .halt]

/-- The instruction completes, keeps the control part, and writes `pc` only if it is one of those that may. -/
def Ordinary (i : Instr) (s : State) : Prop :=
  ∃ t : State, exec i s = .next t ∧ Keeps s t ∧ (t.pc = s.pc ∨ writesPc i = true)

theorem KeepsPc.ordinary {i : Instr} {s t : State} (h : KeepsPc s t) (hexec : exec i s = .next t) : Ordinary i s :=
  ⟨t, hexec, h.toKeeps, .inl h.pc⟩

theorem Keeps.ordinary {i : Instr} {s t : State} (h : Keeps s t) (hexec : exec i s = .next t)
    (hpc : writesPc i = true) : Ordinary i s := ⟨t, hexec, h, .inr hpc⟩

/-- What all instructions but the twelve do. -/
theorem exec_ordinary (i : Instr) (s : State) : i ∉ controlWriters → Ordinary i s := by
  induction i using instr_forms with
  | h_ldRR r1 r2 => exact fun _ => (keepsPc_loadReg s r1 _).ordinary (exec_ldRR r1 r2 s)
  | h_ldRN r n => exact fun _ => (keepsPc_loadReg s r _).ordinary (exec_ldRN r n s)
  | h_ldRAtHl r => exact fun _ => (keepsPc_loadReg s r _).ordinary (exec_ldRAtHl r s)
  | h_ldAtHlR r => exact fun _ => (keepsPc_memWrite s _ _).ordinary (exec_ldAtHlR r s)
  | h_ldRAtXyd r x d => exact fun _ => (keepsPc_loadReg s r _).ordinary (exec_ldRAtXyd r x d s)
  | h_ldAtXydR x d r => exact fun _ => (keepsPc_memWrite s _ _).ordinary (exec_ldAtXydR x d r s)
  | h_ldAtXydN x d n => exact fun _ => (keepsPc_memWrite s _ _).ordinary (exec_ldAtXydN x d n s)
  | h_aluR op r => exact fun _ => (keepsPc_alu s op _).ordinary (exec_aluR op r s)
  | h_aluN op n => exact fun _ => (keepsPc_alu s op _).ordinary (exec_aluN op n s)
  | h_aluAtHl op => exact fun _ => (keepsPc_alu s op _).ordinary (exec_aluAtHl op s)
  | h_aluAtXyd op x d => exact fun _ => (keepsPc_alu s op _).ordinary (exec_aluAtXyd op x d s)
  | h_incR r => exact fun _ => (keepsPc_changeReg s r _ _).ordinary (exec_incR r s)
  | h_incAtXyd x d => exact fun _ => (keepsPc_changeMem s _ _ _).ordinary (exec_incAtXyd x d s)
  | h_decR r => exact fun _ => (keepsPc_changeReg s r _ _).ordinary (exec_decR r s)
  | h_decAtXyd x d => exact fun _ => (keepsPc_changeMem s _ _ _).ordinary (exec_decAtXyd x d s)
  | h_rotR op r => exact fun _ => (keepsPc_changeReg s r _ _).ordinary (exec_rotR op r s)
  | h_rotAtHl op => exact fun _ => (keepsPc_changeMem s _ _ _).ordinary (exec_rotAtHl op s)
  | h_rotAtXyd op x d => exact fun _ => (keepsPc_changeMem s _ _ _).ordinary (exec_rotAtXyd op x d s)
  | h_bitR b r => exact fun _ => (keepsPc_testBit s b _).ordinary (exec_bitR b r s)
  | h_bitAtXyd b x d => exact fun _ => (keepsPc_testBit s b _).ordinary (exec_bitAtXyd b x d s)
  | h_resR b r => exact fun _ => (keepsPc_setReg s r _).ordinary (exec_resR b r s)
  | h_resAtXyd b x d => exact fun _ => (keepsPc_memRead_memWrite s _ _).ordinary (exec_resAtXyd b x d s)
  | h_setR b r => exact fun _ => (keepsPc_setReg s r _).ordinary (exec_setR b r s)
  | h_setAtXyd b x d => exact fun _ => (keepsPc_memRead_memWrite s _ _).ordinary (exec_setAtXyd b x d s)
  | h_inRPortC r => exact fun _ => ((keepsPc_ioRead s _).trans (keepsPc_changeReg _ r _ _)).ordinary (exec_inRPortC r s)
  | h_outPortCR r => exact fun _ => (keepsPc_ioWrite s _ _).ordinary (exec_outPortCR r s)
  | h_addXyPp x p => exact fun _ => (keepsPc_setIdx_putFlags s x _ _).ordinary (exec_addXyPp x p s)
  | h_ldXyNn x nn => exact fun _ => (keepsPc_setIdx s x nn).ordinary (exec_ldXyNn x nn s)
  | h_ldAtNnXy nn x => exact fun _ => (keepsPc_memWrite16 s nn _).ordinary (exec_ldAtNnXy nn x s)
  | h_ldXyAtNn x nn => exact fun _ => (keepsPc_loadIdx s x nn).ordinary (exec_ldXyAtNn x nn s)
  | h_incXy x => exact fun _ => (keepsPc_setIdx s x _).ordinary (exec_incXy x s)
  | h_decXy x => exact fun _ => (keepsPc_setIdx s x _).ordinary (exec_decXy x s)
  | h_popXy x => exact fun _ => ((keepsPc_pop16 s).trans (keepsPc_setIdx _ x _)).ordinary (exec_popXy x s)
  | h_pushXy x => exact fun _ => (keepsPc_push16 s _).ordinary (exec_pushXy x s)
  | h_jpXy x => exact fun _ => (keeps_setPc s _).ordinary (exec_jpXy x s) (by cases x <;> rfl)
  | h_exAtSpXy x => exact fun _ => ((keepsPc_exchangeTop s _).trans (keepsPc_setIdx _ x _)).ordinary (exec_exAtSpXy x s)
  | h_ldSpXy x => exact fun _ => (keepsPc_setSp s _).ordinary (exec_ldSpXy x s)
  | h_nop => exact fun _ => (KeepsPc.refl s).ordinary (exec_nop s)
  | h_ldPpNn p nn => exact fun _ => (keepsPc_setPair s p nn).ordinary (exec_ldPpNn p nn s)
  | h_ldAtBcA => exact fun _ => (keepsPc_memWrite s _ _).ordinary (exec_ldAtBcA s)
  | h_ldAtDeA => exact fun _ => (keepsPc_memWrite s _ _).ordinary (exec_ldAtDeA s)
  | h_ldAtNnHl nn => exact fun _ => (keepsPc_memWrite16 s nn _).ordinary (exec_ldAtNnHl nn s)
  | h_ldAtNnA nn => exact fun _ => (keepsPc_memWrite s nn _).ordinary (exec_ldAtNnA nn s)
  | h_incPp p => exact fun _ => (keepsPc_setPair s p _).ordinary (exec_incPp p s)
  | h_decPp p => exact fun _ => (keepsPc_setPair s p _).ordinary (exec_decPp p s)
  | h_addHlPp p => exact fun _ => (keepsPc_setHl_putFlags s _ _).ordinary (exec_addHlPp p s)
  | h_incAtHl => exact fun _ => (keepsPc_changeMem s _ _ _).ordinary (exec_incAtHl s)
  | h_decAtHl => exact fun _ => (keepsPc_changeMem s _ _ _).ordinary (exec_decAtHl s)
  | h_ldAtHlN n => exact fun _ => (keepsPc_memWrite s _ n).ordinary (exec_ldAtHlN n s)
  | h_rlca => exact fun _ => (keepsPc_changeReg s .a _ _).ordinary (exec_rlca s)
  | h_rrca => exact fun _ => (keepsPc_changeReg s .a _ _).ordinary (exec_rrca s)
  | h_rla => exact fun _ => (keepsPc_changeReg s .a _ _).ordinary (exec_rla s)
  | h_rra => exact fun _ => (keepsPc_changeReg s .a _ _).ordinary (exec_rra s)
  | h_daa => exact fun _ => (keepsPc_decimalAdjust s).ordinary (exec_daa s)
  | h_cpl => exact fun _ => (keepsPc_changeReg s .a _ _).ordinary (exec_cpl s)
  | h_scf => exact fun _ => (keepsPc_putFlags s _).ordinary (exec_scf s)
  | h_ccf => exact fun _ => (keepsPc_putFlags s _).ordinary (exec_ccf s)
  | h_exAfAf => exact fun hi => absurd (by simp [controlWriters]) hi
  | h_ldAAtBc => exact fun _ => (keepsPc_loadReg s .a _).ordinary (exec_ldAAtBc s)
  | h_ldAAtDe => exact fun _ => (keepsPc_loadReg s .a _).ordinary (exec_ldAAtDe s)
  | h_ldHlAtNn nn => exact fun _ => (keepsPc_loadPair s .hl nn).ordinary (exec_ldHlAtNn nn s)
  | h_ldAAtNn nn => exact fun _ => (keepsPc_loadReg s .a _).ordinary (exec_ldAAtNn nn s)
  | h_djnzE e =>
    rcases exec_djnzE_cases e s with ⟨_, hexec⟩ | ⟨_, hexec⟩
    · exact fun _ => (keepsPc_setReg s .b _).ordinary hexec
    · exact fun _ => ((keepsPc_setReg s .b _).toKeeps.trans (keeps_jumpRel _ e)).ordinary hexec rfl
  | h_jrE e => exact fun _ => (keeps_jumpRel s e).ordinary (exec_jrE e s) rfl
  | h_jrCcE cc e => exact fun _ => ((keeps_jumpRel s e).ite (Keeps.refl s)).ordinary (exec_jrCcE cc e s) rfl
  | h_breakpoint64 => exact fun hi => absurd (by simp [controlWriters]) hi
  | h_halt => exact fun hi => absurd (by simp [controlWriters]) hi
  | h_retCc cc => exact fun _ => ((keeps_popPc s).ite (Keeps.refl s)).ordinary (exec_retCc cc s) rfl
  | h_popQq q => exact fun _ => ((keepsPc_pop16 s).trans (keepsPc_setPairQ _ q _)).ordinary (exec_popQq q s)
  | h_jpCcNn cc nn => exact fun _ => ((keeps_setPc s nn).ite (Keeps.refl s)).ordinary (exec_jpCcNn cc nn s) rfl
  | h_jpNn nn => exact fun _ => (keeps_setPc s nn).ordinary (exec_jpNn nn s) rfl
  | h_callCcNn cc nn => exact fun _ => ((keeps_enterAt s nn).ite (Keeps.refl s)).ordinary (exec_callCcNn cc nn s) rfl
  | h_pushQq q => exact fun _ => (keepsPc_push16 s _).ordinary (exec_pushQq q s)
  | h_rstP p => exact fun _ => (keeps_enterAt s _).ordinary (exec_rstP p s) rfl
  | h_ret => exact fun _ => (keeps_popPc s).ordinary (exec_ret s) rfl
  | h_callNn nn => exact fun _ => (keeps_enterAt s nn).ordinary (exec_callNn nn s) rfl
  | h_outPortNA n => exact fun _ => (keepsPc_ioWrite s _ _).ordinary (exec_outPortNA n s)
  | h_inAPortN n => exact fun _ => ((keepsPc_ioRead s _).trans (keepsPc_setReg _ .a _)).ordinary (exec_inAPortN n s)
  | h_exx => exact fun hi => absurd (by simp [controlWriters]) hi
  | h_exAtSpHl => exact fun _ => ((keepsPc_exchangeTop s _).trans (keepsPc_setPair _ .hl _)).ordinary (exec_exAtSpHl s)
  | h_jpHl => exact fun _ => (keeps_setPc s _).ordinary (exec_jpHl s) rfl
  | h_exDeHl => exact fun _ => ((keepsPc_setPair s .de _).trans (keepsPc_setPair _ .hl _)).ordinary (exec_exDeHl s)
  | h_di => exact fun hi => absurd (by simp [controlWriters]) hi
  | h_ldSpHl => exact fun _ => (keepsPc_setSp s _).ordinary (exec_ldSpHl s)
  | h_ei => exact fun hi => absurd (by simp [controlWriters]) hi
  | h_bitAtHl b => exact fun _ => (keepsPc_testBit s b _).ordinary (exec_bitAtHl b s)
  | h_resAtHl b => exact fun _ => (keepsPc_memRead_memWrite s _ _).ordinary (exec_resAtHl b s)
  | h_setAtHl b => exact fun _ => (keepsPc_memRead_memWrite s _ _).ordinary (exec_setAtHl b s)
  | h_trap => exact fun hi => absurd (by simp [controlWriters]) hi
  | h_sbcHlPp p => exact fun _ => (keepsPc_setHl_putFlags s _ _).ordinary (exec_sbcHlPp p s)
  | h_adcHlPp p => exact fun _ => (keepsPc_setHl_putFlags s _ _).ordinary (exec_adcHlPp p s)
  | h_ldAtNnPp nn p => exact fun _ => (keepsPc_memWrite16 s nn _).ordinary (exec_ldAtNnPp nn p s)
  | h_ldPpAtNn p nn => exact fun _ => (keepsPc_loadPair s p nn).ordinary (exec_ldPpAtNn p nn s)
  | h_neg => exact fun _ => (keepsPc_changeReg s .a _ _).ordinary (exec_neg s)
  | h_retn => exact fun hi => absurd (by simp [controlWriters]) hi
  | h_im0 => exact fun hi => absurd (by simp [controlWriters]) hi
  | h_im1 => exact fun hi => absurd (by simp [controlWriters]) hi
  | h_im2 => exact fun hi => absurd (by simp [controlWriters]) hi
  | h_ldIA => exact fun hi => absurd (by simp [controlWriters]) hi
  | h_ldAI => exact fun _ => (keepsPc_changeReg s .a _ _).ordinary (exec_ldAI s)
  | h_reti => exact fun _ => (keeps_popPc s).ordinary (exec_reti s) rfl
  | h_rrd => exact fun _ => (keepsPc_rotateDigits s _ _).ordinary (exec_rrd s)
  | h_rld => exact fun _ => (keepsPc_rotateDigits s _ _).ordinary (exec_rld s)
  | h_ldi => exact fun _ => (keepsPc_ldStep s 1).ordinary (exec_ldi s)
  | h_cpi => exact fun _ => (keepsPc_cpStep s 1).ordinary (exec_cpi s)
  | h_ini => exact fun _ => ((keepsPc_ioInStep s 1).trans (keepsPc_putFlagsWith _ _ _ _)).ordinary (exec_ini s)
  | h_outi => exact fun _ => (keepsPc_ioOut s 1).ordinary (exec_outi s)
  | h_ldd => exact fun _ => (keepsPc_ldStep s (-1)).ordinary (exec_ldd s)
  | h_cpd => exact fun _ => (keepsPc_cpStep s (-1)).ordinary (exec_cpd s)
  | h_ind => exact fun _ => (keepsPc_ioIn s (-1)).ordinary (exec_ind s)
  | h_outd => exact fun _ => (keepsPc_ioOut s (-1)).ordinary (exec_outd s)
  | h_ldir => exact fun _ => ((keepsPc_ldStep s 1).toKeeps.repeatWhen _).ordinary (exec_ldir s) rfl
  | h_cpir => exact fun _ => ((keepsPc_cpStep s 1).toKeeps.repeatWhen _).ordinary (exec_cpir s) rfl
  | h_inir => exact fun _ => ((keepsPc_ioIn s 1).toKeeps.repeatWhen _).ordinary (exec_inir s) rfl
  | h_otir => exact fun _ => ((keepsPc_ioOut s 1).toKeeps.repeatWhen _).ordinary (exec_otir s) rfl
  | h_lddr => exact fun _ => ((keepsPc_ldStep s (-1)).toKeeps.repeatWhen _).ordinary (exec_lddr s) rfl
  | h_cpdr => exact fun _ => ((keepsPc_cpStep s (-1)).toKeeps.repeatWhen _).ordinary (exec_cpdr s) rfl
  | h_indr => exact fun _ => ((keepsPc_ioIn s (-1)).toKeeps.repeatWhen _).ordinary (exec_indr s) rfl
  | h_otdr => exact fun _ => ((keepsPc_ioOut s (-1)).toKeeps.repeatWhen _).ordinary (exec_otdr s) rfl


theorem ordinary_of_exec {i : Instr} {s t : State} (hi : i ∉ controlWriters) (hexec : exec i s = .next t) :
    Keeps s t ∧ (t.pc = s.pc ∨ writesPc i = true) := by
  obtain ⟨u, hu, hkeeps, hpc⟩ := exec_ordinary i s hi
  rw [hexec] at hu
  cases hu
  exact ⟨hkeeps, hpc⟩

/-! ### `TRAP` and 64h (45_general_control.md R295, R296) -/

theorem exec_trap_tsk80a {s : State} (hv : s.platform.variant = .tsk80a) :
    exec .trap s = .fault .trapOnTsk80a := by
  change execTrap s = _
  rw [execTrap, hv]

theorem exec_trap_disabled {s : State} (hv : s.platform.variant = .tsk80aD) (he : s.debugEnable = false) :
    exec .trap s = .next s := by
  change execTrap s = _
  rw [execTrap, hv, he]
  rfl

theorem exec_trap_enabled {s : State} (hv : s.platform.variant = .tsk80aD) (he : s.debugEnable = true) :
    exec .trap s = .next (s.setPc (s.pc - 2)).debugStop := by
  change execTrap s = _
  rw [execTrap, hv, he]
  rfl

theorem exec_breakpoint64_tsk80a {s : State} (hv : s.platform.variant = .tsk80a) :
    exec .breakpoint64 s = .next s := by
  change execBreakpoint64 s = _
  rw [execBreakpoint64, hv]

theorem exec_breakpoint64_tsk80aD {s : State} (hv : s.platform.variant = .tsk80aD) :
    exec .breakpoint64 s = .next (s.setPc (s.pc - 1)).debugStop := by
  change execBreakpoint64 s = _
  rw [execBreakpoint64, hv]

/-- A completed `TRAP` is on a TSK80A_D, and stops it or does nothing. -/
theorem exec_trap_next {s t : State} (hexec : exec .trap s = .next t) :
    s.platform.variant = .tsk80aD ∧ (t = s ∨ t = (s.setPc (s.pc - 2)).debugStop) := by
  cases hv : s.platform.variant with
  | tsk80a =>
    rw [exec_trap_tsk80a hv] at hexec
    cases hexec
  | tsk80aD =>
    cases he : s.debugEnable with
    | false =>
      rw [exec_trap_disabled hv he] at hexec
      cases hexec
      exact ⟨rfl, .inl rfl⟩
    | true =>
      rw [exec_trap_enabled hv he] at hexec
      cases hexec
      exact ⟨rfl, .inr rfl⟩

/-- A completed 64h stops a TSK80A_D, or does nothing. -/
theorem exec_breakpoint64_next {s t : State} (hexec : exec .breakpoint64 s = .next t) :
    t = s ∨ (s.platform.variant = .tsk80aD ∧ t = (s.setPc (s.pc - 1)).debugStop) := by
  cases hv : s.platform.variant with
  | tsk80a =>
    rw [exec_breakpoint64_tsk80a hv] at hexec
    cases hexec
    exact .inl rfl
  | tsk80aD =>
    rw [exec_breakpoint64_tsk80aD hv] at hexec
    cases hexec
    exact .inr ⟨rfl, rfl⟩

/-! ### The twelve that write the control part, and completion -/

/-- An instruction completes, or it is `TRAP` on a TSK80A, which is a fault by name. -/
theorem exec_completes_or_trap (i : Instr) (s : State) : Completes (exec i s) ∨
    (i = .trap ∧ s.platform.variant = .tsk80a ∧ exec i s = .fault .trapOnTsk80a) := by
  by_cases hi : i ∈ controlWriters
  · simp only [controlWriters, List.mem_cons, List.not_mem_nil, or_false] at hi
    obtain rfl | rfl | rfl | rfl | rfl | rfl | rfl | rfl | rfl | rfl | rfl | rfl := hi
    · cases hv : s.platform.variant with
      | tsk80a => exact .inr ⟨rfl, rfl, exec_trap_tsk80a hv⟩
      | tsk80aD =>
        cases he : s.debugEnable with
        | false => exact .inl ⟨_, exec_trap_disabled hv he⟩
        | true => exact .inl ⟨_, exec_trap_enabled hv he⟩
    · cases hv : s.platform.variant with
      | tsk80a => exact .inl ⟨_, exec_breakpoint64_tsk80a hv⟩
      | tsk80aD => exact .inl ⟨_, exec_breakpoint64_tsk80aD hv⟩
    all_goals exact .inl ⟨_, rfl⟩
  · obtain ⟨t, hexec, _⟩ := exec_ordinary i s hi
    exact .inl ⟨t, hexec⟩

/-- Settles O60: an ordinary instruction keeps every field of the control part, and of the twelve others the new state
is known, field by field. -/
theorem onlyNamedInstructionsWriteControlState : Obligations.OnlyNamedInstructionsWriteControlState := by
  unfold Obligations.OnlyNamedInstructionsWriteControlState
  intro i s t hexec
  by_cases hi : i ∈ controlWriters
  · simp only [controlWriters, List.mem_cons, List.not_mem_nil, or_false] at hi
    obtain rfl | rfl | rfl | rfl | rfl | rfl | rfl | rfl | rfl | rfl | rfl | rfl := hi
    · obtain ⟨_, rfl | rfl⟩ := exec_trap_next hexec <;> simp [show writesPc .trap = true from rfl, State.debugStop]
    · obtain rfl | ⟨_, rfl⟩ := exec_breakpoint64_next hexec <;>
        simp [show writesPc .breakpoint64 = true from rfl, State.debugStop]
    · rw [exec_retn] at hexec
      cases hexec
      simp [show writesPc .retn = true from rfl]
    all_goals
      cases hexec
      simp
  · obtain ⟨⟨hcontrol, _⟩, hpc⟩ := ordinary_of_exec hi hexec
    have hkept {α : Type} (field : ControlPart → α) : field t.control = field s.control := congrArg field hcontrol
    exact ⟨.inl (hkept (·.alt)), .inl (hkept (·.ireg)), .inl (hkept (·.im)), .inl (hkept (·.iff1)),
      .inl (hkept (·.iff2)), .inl (hkept (·.halted)), .inl (hkept (·.eiShadow)), .inl (hkept (·.debugStopped)), hpc,
      hkept (·.nmiPending), hkept (·.busGranted), hkept (·.platform), hkept (·.debugEnable), hkept (·.inputs)⟩

end Sys2Proof.Machine
end

section
/-! Proofs about the decoder: what the bytes read so far ask for, and what it refuses. Used below for the fetch and for
the one-byte instruction of mode 0. -/

namespace Sys2Proof

/-! ### How many bytes an instruction can have (30_encoding.md R90, R94) -/

/-- Another byte is needed. -/
def Need.asks (n : Need) : Bool :=
  match n with
  | .opcodeByte => true
  | .operandByte => true
  | .finalByte => true
  | .complete _ => false
  | .undefined _ => false

/-- No instruction begins so. -/
def Shape.isUndef (sh : Shape) : Bool :=
  match sh with
  | .undef => true
  | _ => false

/-- The shape is the software breakpoint. -/
def Shape.isBreakpoint64 (sh : Shape) : Bool :=
  match sh with
  | .plain .breakpoint64 => true
  | _ => false

/-- After an opcode at most two operand bytes follow, so a shape that has one asks for no more than one other. -/
theorem length_le_one_of_shape_asks {sh : Shape} {e : DecodeError} {operands : List Byte}
    (h : (sh.need e operands).asks = true) : operands.length ≤ 1 := by
  match operands with
  | [] => exact Nat.zero_le 1
  | [_] => exact Nat.le_refl 1
  | _ :: _ :: _ => cases sh <;> cases h

/-- No operand follows the opcodes of the CB maps. -/
theorem cbShape_never_asks (b : Byte) (e : DecodeError) (operands : List Byte) :
    ((cbShape b).need e operands).asks = false := by
  unfold cbShape
  repeat' split
  all_goals rfl

theorem xycbShape_never_asks (x : Idx) (d b : Byte) (e : DecodeError) (operands : List Byte) :
    ((xycbShape x d b).need e operands).asks = false := by
  unfold xycbShape
  repeat' split
  all_goals rfl

theorem length_le_two_of_needXy_asks {x : Idx} {bytes : List Byte} (h : (needXy x bytes).asks = true) :
    bytes.length ≤ 2 := by
  match bytes with
  | [] => exact Nat.zero_le 2
  | [_] | [_, _] => simp
  | b1 :: b2 :: b3 :: more =>
    simp only [needXy] at h
    by_cases hb : b1 = 0xCB
    · rw [if_pos hb] at h
      exact absurd ((xycbShape_never_asks x b2 b3 _ more).symm.trans h) Bool.false_ne_true
    · rw [if_neg hb] at h
      have := length_le_one_of_shape_asks h
      simp at this

/-- An instruction has at most four bytes (R90). -/
theorem length_le_three_of_need_asks {v : Variant} {bytes : List Byte} (h : (need v bytes).asks = true) :
    bytes.length ≤ 3 := by
  match bytes with
  | [] => exact Nat.zero_le 3
  | [_] | [_, _] => simp
  | b0 :: b1 :: b2 :: more =>
    simp only [need] at h
    split_ifs at h
    · exact absurd ((cbShape_never_asks b1 _ (b2 :: more)).symm.trans h) Bool.false_ne_true
    · have := length_le_one_of_shape_asks h
      simp_all
    · have := length_le_two_of_needXy_asks h
      simp_all
    · have := length_le_two_of_needXy_asks h
      simp_all
    · have := length_le_one_of_shape_asks h
      simp at this

/-! ### What is refused, and under which name (R112 to R115) -/

/-- The only bytes of the first map that are no instruction are the four that open another map (R93). -/
theorem baseShape_undef {v : Variant} {b : Byte} (h : (baseShape v b).isUndef = true) :
    b = 0xCB ∨ b = 0xED ∨ b = 0xDD ∨ b = 0xFD := by
  cases v <;> revert b <;> decide

theorem Shape.need_undefined {sh : Shape} {e e' : DecodeError} {operands : List Byte}
    (h : sh.need e operands = .undefined e') : sh.isUndef = true ∧ e' = e := by
  unfold Shape.need at h
  split at h <;> cases h
  exact ⟨rfl, rfl⟩

theorem needXy_ne_truncated (x : Idx) (bytes : List Byte) : needXy x bytes ≠ .undefined .truncated := by
  intro h
  unfold needXy at h
  split at h
  · cases h
  · split_ifs at h
    · split at h
      · cases h
      · cases h
      · cases (Shape.need_undefined h).2
    · cases (Shape.need_undefined h).2

/-- Every undefined encoding is refused under the name of its map (R112 to R115). -/
theorem need_ne_truncated (v : Variant) (bytes : List Byte) : need v bytes ≠ .undefined .truncated := by
  intro h
  unfold need at h
  split at h
  · cases h
  · split_ifs at h with hcb hed hdd hfd
    · split at h
      · cases h
      · cases (Shape.need_undefined h).2
    · split at h
      · cases h
      · cases (Shape.need_undefined h).2
    · exact needXy_ne_truncated .ix _ h
    · exact needXy_ne_truncated .iy _ h
    · obtain hb | hb | hb | hb := baseShape_undef (Shape.need_undefined h).1
      · exact hcb hb
      · exact hed hb
      · exact hdd hb
      · exact hfd hb

/-- No byte is the software breakpoint on a TSK80A (R111). -/
theorem baseShape_tsk80a_ne_breakpoint64 (b : Byte) : (baseShape .tsk80a b).isBreakpoint64 = false := by
  revert b
  decide

/-- An instruction that is complete at its opcode has no operand bytes. -/
theorem Shape.plain_of_complete_nil {sh : Shape} {e : DecodeError} {i : Instr} (h : sh.need e [] = .complete i) :
    sh = .plain i := by
  cases sh <;> cases h
  rfl

/-- One byte alone that is an instruction is one of the first map. -/
theorem baseShape_of_need_single {v : Variant} {b : Byte} {i : Instr} (h : need v [b] = .complete i) :
    baseShape v b = .plain i := by
  simp only [need, needXy] at h
  split_ifs at h
  exact Shape.plain_of_complete_nil h

theorem need_tsk80a_ne_breakpoint64 (b : Byte) : need .tsk80a [b] ≠ .complete .breakpoint64 := by
  intro h
  have hnot := baseShape_tsk80a_ne_breakpoint64 b
  rw [baseShape_of_need_single h] at hnot
  cases hnot

end Sys2Proof
end

section
/-! Proofs about the step as a whole (60_exceptions.md R444): which outcomes it can have, and that it keeps the
invariant. First the fetch; then the events in their order. -/

namespace Sys2Proof.Machine

/-! ### The fetch (30_encoding.md R91, R92, R94) -/

theorem keeps_fetchOpcode (s : State) : Keeps s s.fetchOpcode := ⟨by simp [State.control], by simp⟩

theorem keeps_fetchOperand (s : State) : Keeps s s.fetchOperand := ⟨by simp [State.control], by simp⟩

theorem keeps_fetchFinal (s : State) : Keeps s s.fetchFinal :=
  (keeps_fetchOpcode s).ite (keeps_fetchOperand s)

theorem keeps_fetchLoop (v : Variant) (k : Nat) (got : List Byte) (s : State) :
    Keeps s (fetchLoop v k got s).1 := by
  induction k generalizing got s with
  | zero => exact Keeps.refl s
  | succ k ih =>
    unfold fetchLoop
    split
    · exact Keeps.refl s
    · exact Keeps.refl s
    · exact (keeps_fetchOpcode s).trans (ih _ _)
    · exact (keeps_fetchOperand s).trans (ih _ _)
    · exact (keeps_fetchFinal s).trans (ih _ _)

/-- With rounds left for the bytes an instruction can have, the fetch ends in an instruction or in an error with the
name of a map. -/
theorem fetchLoop_ne_truncated (v : Variant) (k : Nat) (got : List Byte) (s : State) (hrounds : 5 ≤ got.length + k)
    (hk : 0 < k) : (fetchLoop v k got s).2 ≠ .error .truncated := by
  induction k generalizing got s with
  | zero => exact absurd hk (Nat.lt_irrefl 0)
  | succ k ih =>
    have hnext (b : Byte) (t : State) (hasks : (need v got).asks = true) :
        (fetchLoop v k (got ++ [b]) t).2 ≠ .error .truncated := by
      have hshort := length_le_three_of_need_asks hasks
      exact ih _ _ (by simp; omega) (by omega)
    unfold fetchLoop
    split
    case h_1 => exact fun h => nomatch h
    case h_2 e hneed =>
      intro h
      cases h
      exact need_ne_truncated v got hneed
    case h_3 hneed => exact hnext _ _ (by rw [hneed]; rfl)
    case h_4 hneed => exact hnext _ _ (by rw [hneed]; rfl)
    case h_5 hneed => exact hnext _ _ (by rw [hneed]; rfl)

/-- The two outcomes of the last part of R444: an instruction runs on the fetched state, or the bytes are refused under
the name of a map. -/
theorem runInstr_cases (s : State) :
    (∃ (t : State) (i : Instr), Keeps { s with eiShadow := false } t ∧ s.runInstr = exec i t) ∨
      ∃ e : DecodeError, e ≠ .truncated ∧ s.runInstr = .fault (faultOf e) := by
  have hkeeps := keeps_fetchLoop s.platform.variant 5 [] { s with eiShadow := false }
  have hnot := fetchLoop_ne_truncated s.platform.variant 5 [] { s with eiShadow := false } (Nat.le_refl 5)
    (Nat.succ_pos 4)
  unfold State.runInstr State.fetchInstr
  split
  case h_1 t i hfetch =>
    rw [hfetch] at hkeeps
    exact .inl ⟨t, i, hkeeps, rfl⟩
  case h_2 t e hfetch =>
    rw [hfetch] at hnot
    exact .inr ⟨e, fun he => hnot (he ▸ rfl), rfl⟩

/-! ### Maskable entry (60_exceptions.md R454 to R460) -/

/-- The device's byte in mode 0: the debug stop, an instruction of one byte, or the fault by name. -/
theorem mode0_cases (s : State) (v : Byte) :
    (s.platform.variant = .tsk80aD ∧ s.mode0 v = .next s.debugStop) ∨ (∃ i : Instr, s.mode0 v = exec i s) ∨
      s.mode0 v = .fault .mode0MultiByte := by
  unfold State.mode0
  split
  case h_1 hneed =>
    refine .inl ⟨?_, rfl⟩
    cases hv : s.platform.variant with
    | tsk80a => exact absurd (hv ▸ hneed) (need_tsk80a_ne_breakpoint64 v)
    | tsk80aD => rfl
  case h_2 i _ _ => exact .inr (.inl ⟨i, rfl⟩)
  all_goals exact .inr (.inr rfl)

theorem keeps_mode2 (s : State) (v : Byte) : Keeps s (s.mode2 v) := by
  unfold State.mode2
  split
  · exact keeps_enterAt s _
  · exact ((keepsPc_push16 s _).trans (keepsPc_memRead16 _ _)).toKeeps.trans (keeps_setPc _ _)

/-! ### No refusal, no truncation -/

/-- The outcome is a next state or a fault other than a truncation. -/
def NamedOutcome (o : Host.Outcome State Fault Refusal) : Prop :=
  Completes o ∨ ∃ f : Fault, f ≠ .decodeTruncated ∧ o = .fault f

theorem namedOutcome_next (t : State) : NamedOutcome (.next t) := .inl ⟨t, rfl⟩

theorem namedOutcome_exec (i : Instr) (s : State) : NamedOutcome (exec i s) := by
  rcases exec_completes_or_trap i s with h | ⟨_, _, h⟩
  · exact .inl h
  · exact .inr ⟨_, by decide, h⟩

theorem namedOutcome_runInstr (s : State) : NamedOutcome s.runInstr := by
  rcases runInstr_cases s with ⟨t, i, _, h⟩ | ⟨e, he, h⟩
  · rw [h]
    exact namedOutcome_exec i t
  · refine .inr ⟨_, ?_, h⟩
    cases e with
    | truncated => exact absurd rfl he
    | _ => decide

theorem namedOutcome_acceptInt (s : State) : NamedOutcome s.acceptInt := by
  unfold State.acceptInt
  split
  · rcases mode0_cases s.beginInt s.sfrIn with ⟨_, h⟩ | ⟨i, h⟩ | h
    · rw [h]
      exact namedOutcome_next _
    · rw [h]
      exact namedOutcome_exec i _
    · exact .inr ⟨_, by decide, h⟩
  · exact namedOutcome_next _
  · exact namedOutcome_next _

theorem namedOutcome_runBoundary (s : State) (b : Boundary) : NamedOutcome (s.runBoundary b) := by
  unfold State.runBoundary
  split_ifs
  · exact namedOutcome_next _
  · exact namedOutcome_next _
  · exact namedOutcome_next _
  · exact namedOutcome_acceptInt s
  · exact namedOutcome_next _
  · exact namedOutcome_runInstr s

theorem namedOutcome_afterDebug (s : State) (b : Boundary) : NamedOutcome (s.afterDebug b) := by
  unfold State.afterDebug
  split_ifs
  · exact namedOutcome_next _
  · exact namedOutcome_runBoundary s b

theorem namedOutcome_stopAgain {o : Host.Outcome State Fault Refusal} (h : NamedOutcome o) :
    NamedOutcome (stopAgain o) := by
  rcases h with ⟨t, rfl⟩ | ⟨f, hf, rfl⟩
  · exact namedOutcome_next _
  · exact .inr ⟨f, hf, rfl⟩

theorem namedOutcome_hostTurn (s : State) (b : Boundary) : NamedOutcome (s.hostTurn b) := by
  unfold State.hostTurn
  split
  case h_7 => exact namedOutcome_stopAgain (namedOutcome_afterDebug _ b)
  all_goals exact namedOutcome_next _

theorem namedOutcome_step (s : State) : NamedOutcome (step s) := by
  unfold step State.stepAt
  split_ifs
  · exact namedOutcome_next _
  · exact namedOutcome_hostTurn _ _
  · exact namedOutcome_afterDebug _ _

/-- Settles O58: an instruction that is not `TRAP` on a TSK80A completes, and every part of a step ends in a next state
or in a fault with a name. -/
theorem everyInstructionCompletes : Obligations.EveryInstructionCompletes := by
  unfold Obligations.EveryInstructionCompletes
  refine ⟨fun i s htrap => ?_, fun s r h => ?_, fun s h => ?_⟩
  · rcases exec_completes_or_trap i s with hnext | ⟨rfl, hv, _⟩
    · exact hnext
    · exact nomatch hv.symm.trans (htrap rfl)
  · rcases namedOutcome_step s with ⟨t, ht⟩ | ⟨f, _, hf⟩
    · exact nomatch h.symm.trans ht
    · exact nomatch h.symm.trans hf
  · rcases namedOutcome_step s with ⟨t, ht⟩ | ⟨f, hne, hf⟩
    · exact nomatch h.symm.trans ht
    · cases h.symm.trans hf
      exact hne rfl

/-! ### The invariant (10_state.md R42, R48) -/

/-- From `s` to `t` the platform stays, and the invariant is kept. -/
structure KeepsInv (s t : State) : Prop where
  platform : t.platform = s.platform
  inv : s.Inv → t.Inv

theorem KeepsInv.refl (s : State) : KeepsInv s s := ⟨rfl, id⟩

theorem KeepsInv.trans {s t u : State} (h1 : KeepsInv s t) (h2 : KeepsInv t u) : KeepsInv s u :=
  ⟨h2.platform.trans h1.platform, h2.inv ∘ h1.inv⟩

theorem Keeps.keepsInv {s t : State} (h : Keeps s t) : KeepsInv s t := by
  have hplatform : t.platform = s.platform := congrArg ControlPart.platform h.control
  have hstopped : t.debugStopped = s.debugStopped := congrArg ControlPart.debugStopped h.control
  refine ⟨hplatform, fun hinv => ⟨h.wf hinv.1, fun hv => ?_⟩⟩
  rw [hplatform] at hv
  rw [hstopped]
  exact hinv.2 hv

/-- Only the debug unit of a TSK80A_D stops the processor. -/
theorem keepsInv_debugStop {s : State} (hv : s.platform.variant = .tsk80aD) : KeepsInv s s.debugStop :=
  ⟨rfl, fun hinv => ⟨hinv.1, fun h => nomatch hv.symm.trans h⟩⟩

/-- A processor that runs is not stopped. -/
theorem keepsInv_run (s : State) : KeepsInv s { s with debugStopped := false } :=
  ⟨rfl, fun hinv => ⟨hinv.1, fun _ => rfl⟩⟩

theorem keepsInv_exec {i : Instr} {s t : State} (hexec : exec i s = .next t) : KeepsInv s t := by
  by_cases hi : i ∈ controlWriters
  · simp only [controlWriters, List.mem_cons, List.not_mem_nil, or_false] at hi
    obtain rfl | rfl | rfl | rfl | rfl | rfl | rfl | rfl | rfl | rfl | rfl | rfl := hi
    · obtain ⟨hv, rfl | rfl⟩ := exec_trap_next hexec
      · exact KeepsInv.refl _
      · exact (keeps_setPc s _).keepsInv.trans (keepsInv_debugStop hv)
    · obtain rfl | ⟨hv, rfl⟩ := exec_breakpoint64_next hexec
      · exact KeepsInv.refl _
      · exact (keeps_setPc s _).keepsInv.trans (keepsInv_debugStop hv)
    · have hpop := (keeps_popPc s).keepsInv
      rw [exec_retn] at hexec
      cases hexec
      exact ⟨hpop.platform, hpop.inv⟩
    all_goals
      cases hexec
      exact ⟨rfl, id⟩
  · exact (ordinary_of_exec hi hexec).1.keepsInv

theorem keepsInv_runInstr {s t : State} (h : s.runInstr = .next t) : KeepsInv s t := by
  rcases runInstr_cases s with ⟨u, i, hkeeps, hrun⟩ | ⟨e, _, hrun⟩
  · have hfetched := hkeeps.keepsInv.trans (keepsInv_exec (hrun.symm.trans h))
    exact ⟨hfetched.platform, hfetched.inv⟩
  · exact nomatch hrun.symm.trans h

theorem keepsInv_beginInt (s : State) : KeepsInv s s.beginInt :=
  ⟨beginInt_platform s, by simp [State.Inv]⟩

theorem keepsInv_acceptInt {s t : State} (h : s.acceptInt = .next t) : KeepsInv s t := by
  refine (keepsInv_beginInt s).trans ?_
  unfold State.acceptInt at h
  split at h
  · rcases mode0_cases s.beginInt s.sfrIn with ⟨hv, hrun⟩ | ⟨i, hrun⟩ | hrun
    · cases hrun.symm.trans h
      exact keepsInv_debugStop hv
    · exact keepsInv_exec (hrun.symm.trans h)
    · exact nomatch hrun.symm.trans h
  · cases h
    exact (keeps_enterAt _ _).keepsInv
  · cases h
    exact (keeps_mode2 _ _).keepsInv

theorem keepsInv_acceptNmi (s : State) : KeepsInv s s.acceptNmi := by
  have hbegun : KeepsInv s (nmiBegun s) := ⟨rfl, id⟩
  rw [acceptNmi_eq]
  exact hbegun.trans (keeps_enterAt _ _).keepsInv

theorem keepsInv_runBoundary {s t : State} {b : Boundary} (h : s.runBoundary b = .next t) : KeepsInv s t := by
  unfold State.runBoundary at h
  split_ifs at h
  · cases h
    exact ⟨rfl, id⟩
  · cases h
    exact ⟨rfl, id⟩
  · cases h
    exact keepsInv_acceptNmi s
  · exact keepsInv_acceptInt h
  · cases h
    exact KeepsInv.refl s
  · exact keepsInv_runInstr h

theorem keepsInv_afterDebug {s t : State} {b : Boundary} (h : s.afterDebug b = .next t) : KeepsInv s t := by
  unfold State.afterDebug at h
  split_ifs at h with hstop
  · cases h
    rw [Bool.and_eq_true, beq_iff_eq] at hstop
    exact keepsInv_debugStop hstop.1
  · exact keepsInv_runBoundary h

theorem keepsInv_doReset (s : State) (stopped : Bool) : KeepsInv s (s.doReset stopped) := by
  refine ⟨rfl, fun hinv => ⟨hinv.1, fun hv => ?_⟩⟩
  have hmember : s.platform.variant = .tsk80a := hv
  change (stopped && s.platform.variant == .tsk80aD) = false
  rw [hmember]
  exact Bool.and_false stopped

/-- The host stops a processor again after a single step, which only a TSK80A_D can meet. -/
theorem keepsInv_stopAgain {s t : State} {o : Host.Outcome State Fault Refusal} (hv : s.platform.variant = .tsk80aD)
    (ho : ∀ u : State, o = .next u → KeepsInv s u) (h : stopAgain o = .next t) : KeepsInv s t := by
  cases o with
  | next u =>
    cases h
    have hu := ho u rfl
    exact hu.trans (keepsInv_debugStop (hu.platform ▸ hv))
  | fault f => cases h
  | refused r => cases h

theorem keepsInv_hostTurn {s t : State} {b : Boundary} (hv : s.platform.variant = .tsk80aD)
    (h : s.hostTurn b = .next t) : KeepsInv s t := by
  unfold State.hostTurn at h
  split at h
  case h_1 => cases h; exact KeepsInv.refl s
  case h_2 => cases h; exact ⟨rfl, id⟩
  case h_3 => cases h; exact (keepsPc_memRead s _).keepsInv
  case h_4 => cases h; exact (keepsPc_memWrite s _ _).keepsInv
  case h_5 => cases h; exact (keepsPc_ioRead s _).keepsInv
  case h_6 => cases h; exact (keepsPc_ioWrite s _ _).keepsInv
  case h_7 =>
    exact keepsInv_stopAgain hv (fun u hu => (keepsInv_run s).trans (keepsInv_afterDebug hu)) h
  case h_8 => cases h; exact ⟨rfl, id⟩
  case h_9 => cases h; exact keepsInv_run s
  case h_10 => cases h; exact keepsInv_doReset s _

/-- Taking the inputs of a boundary leaves memory canonical, whatever another bus master writes. -/
theorem keepsInv_takeInputs (s : State) (b : Boundary) : KeepsInv s (s.takeInputs b) := by
  refine ⟨takeInputs_platform s b, fun hinv => ⟨takeInputs_wf s b hinv.1, fun hv => ?_⟩⟩
  rw [takeInputs_platform] at hv
  rw [takeInputs_debugStopped]
  exact hinv.2 hv

/-- Settles O55: each part of a step keeps the invariant, and only a TSK80A_D reaches the parts that stop it. -/
theorem stepKeepsInvariant : Obligations.StepKeepsInvariant := by
  unfold Obligations.StepKeepsInvariant
  intro s t hinv h
  have hpopped : KeepsInv s s.popInput := ⟨rfl, id⟩
  have hinputs := hpopped.trans (keepsInv_takeInputs s.popInput s.boundary)
  suffices hstep : KeepsInv (s.popInput.takeInputs s.boundary) t from hstep.inv (hinputs.inv hinv)
  unfold step State.stepAt at h
  split_ifs at h with hrst hstopped
  · cases h
    exact keepsInv_doReset _ _
  · rw [Bool.and_eq_true, beq_iff_eq] at hstopped
    exact keepsInv_hostTurn (hinputs.platform ▸ hstopped.1) h
  · exact keepsInv_afterDebug h

/-- Settles O56: the memory list of `State.reset` is empty, and its `debug_stopped` is 0. -/
theorem invariantAtReset : Obligations.InvariantAtReset := by
  unfold Obligations.InvariantAtReset
  exact ⟨⟨rfl, fun _ => rfl⟩, rfl⟩

end Sys2Proof.Machine
end

section
/-! Proofs for the families 43_load8.md and 44_load16.md, the forms left open above: the register and the indexed loads,
the 16-bit loads at (nn), and the stack. First what a pop after a push reads; then the shared operations, whole. -/

namespace Sys2Proof.Machine

/-! ### 8-bit loads (43_load8.md R220, R221, R223, R225, R227) -/

theorem only_loadReg_reg (s : State) (r1 r2 : Reg8) : OnlyRegs [nameOf r1] s (s.loadReg r1 (.reg r2)) :=
  only_setReg s r1 _

theorem only_loadReg_imm (s : State) (r : Reg8) (n : Byte) : OnlyRegs [nameOf r] s (s.loadReg r (.imm n)) :=
  only_setReg s r n

/-- The effective address is the index register plus the displacement as a number, modulo 65536 (20_memory.md R75). -/
theorem ea_eq_ofInt (s : State) (x : Idx) (d : Byte) : s.ea x d = BitVec.ofInt 16 ((s.idx x).toNat + d.toInt) :=
  add_sext16_eq_ofInt (s.idx x) d

/-- Settles O1: both forms are `loadReg` from an operand that makes no access. -/
theorem loadRegister : Obligations.LoadRegister := by
  unfold Obligations.LoadRegister
  refine ⟨fun r1 r2 s hv => encodedAs_ldRR _ r1 r2 hv, encodedAs_breakpoint64.2, fun v => (encodedAs_halt v).2,
    fun r1 r2 s => ?_, encodedAs_ldRN, fun r n s => ?_⟩
  · exact ⟨_, exec_ldRR r1 r2 s, loadReg_reg s r1 (.reg r2), only_loadReg_reg s r1 r2⟩
  · exact ⟨_, exec_ldRN r n s, loadReg_reg s r (.imm n), only_loadReg_imm s r n⟩

/-- Settles O4: each form is one load or one store at the effective address, which is the sum of the statement. -/
theorem loadStoreIndexed : Obligations.LoadStoreIndexed := by
  unfold Obligations.LoadStoreIndexed
  refine ⟨fun v r x d => ⟨encodedAs_ldRAtXyd v r x d, encodedAs_ldAtXydR v x d r⟩, encodedAs_ldAtXydN, ?_⟩
  rintro x d s _ rfl
  rw [← ea_eq_ofInt]
  refine ⟨fun r => ?_, fun r => ?_, fun n => ?_⟩
  · exact exec_load_mem (exec_ldRAtXyd r x d s)
  · exact ⟨_, exec_ldAtXydR x d r s, only_memWrite s _ _⟩
  · exact ⟨_, exec_ldAtXydN x d n s, only_memWrite s _ n⟩

/-! ### A word loaded from memory (44_load16.md R258 to R261) -/

theorem only_loadPair (s : State) (p : Pair) (a : Word) :
    OnlyReads (pairNames p) [.memRead a (s.memIn a), .memRead (a + 1) ((s.memRead a).memIn (a + 1))] s
      (s.loadPair p a) :=
  (only_memRead16 s a).trans (only_setPair _ p _) (List.nil_subset _) (List.Subset.refl _)

theorem only_loadIdx (s : State) (x : Idx) (a : Word) :
    OnlyReads [idxName x] [.memRead a (s.memIn a), .memRead (a + 1) ((s.memRead a).memIn (a + 1))] s
      (s.loadIdx x a) :=
  (only_memRead16 s a).trans (only_setIdx _ x _) (List.nil_subset _) (List.Subset.refl _)

theorem loadPair_pair (s : State) (p : Pair) (a : Word) : (s.loadPair p a).pair p = s.memIn16 a :=
  setPair_pair _ p _

theorem loadIdx_idx (s : State) (x : Idx) (a : Word) : (s.loadIdx x a).idx x = s.memIn16 a := setIdx_idx _ x _

/-- Settles O7: a store is `memWrite16`, a load `memRead16` and then one write of the destination. -/
theorem loadStoreWordDirect : Obligations.LoadStoreWordDirect := by
  unfold Obligations.LoadStoreWordDirect
  refine ⟨fun v nn => ⟨encodedAs_ldAtNnHl v nn, encodedAs_ldHlAtNn v nn⟩,
    fun v nn p => ⟨encodedAs_ldAtNnPp v nn p, encodedAs_ldPpAtNn v p nn⟩,
    fun v nn x => ⟨encodedAs_ldAtNnXy v nn x, encodedAs_ldXyAtNn v x nn⟩, fun nn s => ?_, fun nn p s => ?_,
    fun nn x s => ?_, ?_⟩
  · have hstore := only_memWrite16 s nn s.hl
    rw [State.hl, lo_join, hi_join] at hstore
    exact ⟨_, exec_ldAtNnHl nn s, hstore⟩
  · exact ⟨_, exec_ldAtNnPp nn p s, only_memWrite16 s nn _⟩
  · exact ⟨_, exec_ldAtNnXy nn x s, only_memWrite16 s nn _⟩
  · rintro nn s _ _ rfl rfl
    refine ⟨⟨_, exec_ldHlAtNn nn s, hi_join _ _, lo_join _ _, only_loadPair s .hl nn⟩, fun p => ?_, fun x => ?_⟩
    · exact ⟨_, exec_ldPpAtNn p nn s, loadPair_pair s p nn, only_loadPair s p nn⟩
    · exact ⟨_, exec_ldXyAtNn x nn s, loadIdx_idx s x nn, only_loadIdx s x nn⟩

/-! ### The stack (20_memory.md R70, R71) -/

/-- `Pop16` gives back a word that was stored at `SP` in RAM. -/
theorem popIn_of_storesWord {s t : State} {w : Word} (h : StoresWord s t t.sp w) (hplatform : t.platform = s.platform)
    (hlow : s.kindAt t.sp = .ram) (hhigh : s.kindAt (t.sp + 1) = .ram) : t.popIn = w := by
  have hkind (x : Word) : t.kindAt x = s.kindAt x := by rw [State.kindAt, State.kindAt, hplatform]
  obtain ⟨_, hlo, _, hhi, _⟩ := h
  rw [State.popIn, memIn16_of_holdsData (by rw [hkind, hlow]; rfl) (by rw [hkind, hhigh]; rfl), hhi hhigh, hlo hlow,
    join_hi_lo]

/-- `Pop16` after `Push16` on RAM gives back the word (R71, last sentence). -/
theorem popIn_push16 {s : State} (w : Word) (h1 : s.kindAt (s.sp - 1) = .ram) (h2 : s.kindAt (s.sp - 2) = .ram) :
    (s.push16 w).popIn = w := by
  have hnext : s.sp - 2 + 1 = s.sp - 1 := by bv_omega
  exact popIn_of_storesWord (storesWord_push16 s w) (push16_platform s w) h2 (hnext.symm ▸ h1)

theorem popQ_sp (s : State) (q : PairQ) (w : Word) : (s.pop16.setPairQ q w).sp = s.sp + 2 := by
  rw [setPairQ_sp, pop16_sp]

theorem only_popQ (s : State) (q : PairQ) :
    OnlyReads (.sp :: pairQNames q)
      [.memRead s.sp (s.memIn s.sp), .memRead (s.sp + 1) ((s.memRead s.sp).memIn (s.sp + 1))] s
      (s.pop16.setPairQ q s.popIn) :=
  (only_pop16 s).trans (only_setPairQ _ q _) (by simp) (by simp)

theorem only_popXy (s : State) (x : Idx) :
    OnlyReads [.sp, idxName x]
      [.memRead s.sp (s.memIn s.sp), .memRead (s.sp + 1) ((s.memRead s.sp).memIn (s.sp + 1))] s
      (s.pop16.setIdx x s.popIn) :=
  (only_pop16 s).trans (only_setIdx _ x _) (by simp) (by simp)

/-- Settles O8: both forms are one `push16`. -/
theorem pushStoresWord : Obligations.PushStoresWord := by
  unfold Obligations.PushStoresWord
  refine ⟨encodedAs_pushQq, encodedAs_pushXy, fun q s => ?_, fun x s => ?_⟩
  · exact ⟨_, exec_pushQq q s, push16_sp s _, only_push16 s _⟩
  · exact ⟨_, exec_pushXy x s, push16_sp s _, only_push16 s _⟩

/-- Settles O9: both forms are `pop16` and then one write of the destination with the word that was read. -/
theorem popLoadsWord : Obligations.PopLoadsWord := by
  unfold Obligations.PopLoadsWord
  refine ⟨encodedAs_popQq, encodedAs_popXy, ?_⟩
  rintro s _ _ rfl rfl
  refine ⟨fun q => ?_, fun x => ?_⟩
  · exact ⟨_, exec_popQq q s, setPairQ_pairQ _ q _, popQ_sp s q _, only_popQ s q⟩
  · exact ⟨_, exec_popXy x s, setIdx_idx _ x _, setIdx_sp _ x _, only_popXy s x⟩

/-- Settles O10: the pop reads the two bytes that the push stored, at the address that `SP` then holds. -/
theorem popAfterPush : Obligations.PopAfterPush := by
  unfold Obligations.PopAfterPush
  refine ⟨fun s => ⟨rfl, pop16_sp s, (only_pop16 s).2.2.2⟩, fun q q' s h1 h2 => ?_⟩
  refine ⟨_, _, exec_pushQq q s, exec_popQq q' _, ?_, ?_⟩
  · rw [popQ_sp, push16_sp, BitVec.sub_add_cancel]
  · rw [setPairQ_pairQ, popIn_push16 _ h1 h2]

end Sys2Proof.Machine
end

section
/-! Proofs for the families 40_arith8.md and 41_arith16.md, and `CP`: addition and subtraction with their flags. First
each flag of the sums and differences as a condition on numbers, for bytes and for words; then the operation that only
compares; then the indexed forms. -/

namespace Sys2Proof.Machine

/-! ### Conditions on bytes and words as conditions on numbers -/

theorem decide_word_eq (v w : Word) : decide (v = w) = decide (v.toNat = w.toNat) :=
  decide_eq_decide.2 BitVec.toNat_inj.symm

/-- The overflow of R35 in the words of the statements (D5). -/
theorem overflow8_eq (x : Int) : overflow8 x = decide (x < -128 ∨ 127 < x) := (Bool.decide_or _ _).symm

theorem overflow16_eq (x : Int) : overflow16 x = decide (x < -32768 ∨ 32767 < x) := (Bool.decide_or _ _).symm

/-! ### Sums and differences of bytes (40_arith8.md R130, R131) -/

theorem toNat_add8 (a b : Byte) (cin : Bool) : (add8 a b cin).toNat = (a.toNat + b.toNat + cin.toNat) % 256 :=
  BitVec.toNat_ofNat _ 8

theorem toNat_sub8 (a b : Byte) (cin : Bool) :
    ((sub8 a b cin).toNat : Int) = ((a.toNat : Int) - b.toNat - cin.toNat) % 256 := by
  rw [sub8, BitVec.toNat_ofInt]
  exact Int.toNat_of_nonneg (Int.emod_nonneg _ (by decide))

/-- The six flags of `add8`, each a condition on numbers. -/
theorem add8Flags_eq (a b : Byte) (cin : Bool) :
    add8Flags a b cin = { s := decide (128 ≤ (a.toNat + b.toNat + cin.toNat) % 256), z := decide ((a.toNat + b.toNat + cin.toNat) % 256 = 0), h := decide (15 < a.toNat % 16 + b.toNat % 16 + cin.toNat), pv := decide (a.toInt + b.toInt + cin.toNat < -128 ∨ 127 < a.toInt + b.toInt + cin.toNat), n := false, c := decide (255 < a.toNat + b.toNat + cin.toNat) } := by
  have hs : (add8 a b cin).msb = decide (128 ≤ (a.toNat + b.toNat + cin.toNat) % 256) := by
    rw [BitVec.msb_eq_decide, toNat_add8]
  have hz : (add8 a b cin == 0) = decide ((a.toNat + b.toNat + cin.toNat) % 256 = 0) := by
    rw [← toNat_add8]
    exact decide_byte_eq _ 0
  rw [add8Flags, hs, hz, overflow8_eq]

/-- The six flags of `sub8`; S and Z are those of the result. -/
theorem sub8Flags_eq (a b : Byte) (cin : Bool) :
    sub8Flags a b cin = { s := (sub8 a b cin).getLsbD 7, z := decide ((sub8 a b cin).toNat = 0), h := decide (a.toNat % 16 < b.toNat % 16 + cin.toNat), pv := decide (a.toInt - b.toInt - cin.toNat < -128 ∨ 127 < a.toInt - b.toInt - cin.toNat), n := true, c := decide (a.toNat < b.toNat + cin.toNat) } := by
  have hz : (sub8 a b cin == 0) = decide ((sub8 a b cin).toNat = 0) := decide_byte_eq _ 0
  rw [sub8Flags, hz, overflow8_eq]
  rfl

/-! ### Sums and differences of words (41_arith16.md R170, R171) -/

theorem toNat_adc16 (a b : Word) (cin : Bool) : (adc16 a b cin).toNat = (a.toNat + b.toNat + cin.toNat) % 65536 :=
  BitVec.toNat_ofNat _ 16

theorem toNat_sbc16 (a b : Word) (cin : Bool) :
    ((sbc16 a b cin).toNat : Int) = ((a.toNat : Int) - b.toNat - cin.toNat) % 65536 := by
  rw [sbc16, BitVec.toNat_ofInt]
  exact Int.toNat_of_nonneg (Int.emod_nonneg _ (by decide))

theorem adc16Flags_eq (a b : Word) (cin : Bool) :
    adc16Flags a b cin = { s := (adc16 a b cin).getLsbD 15, z := decide ((adc16 a b cin).toNat = 0), h := decide (4095 < a.toNat % 4096 + b.toNat % 4096 + cin.toNat), pv := decide (a.toInt + b.toInt + cin.toNat < -32768 ∨ 32767 < a.toInt + b.toInt + cin.toNat), n := false, c := decide (65535 < a.toNat + b.toNat + cin.toNat) } := by
  have hz : (adc16 a b cin == 0) = decide ((adc16 a b cin).toNat = 0) := decide_word_eq _ 0
  rw [adc16Flags, hz, overflow16_eq]
  rfl

theorem sbc16Flags_eq (a b : Word) (cin : Bool) :
    sbc16Flags a b cin = { s := (sbc16 a b cin).getLsbD 15, z := decide ((sbc16 a b cin).toNat = 0), h := decide (a.toNat % 4096 < b.toNat % 4096 + cin.toNat), pv := decide (a.toInt - b.toInt - cin.toNat < -32768 ∨ 32767 < a.toInt - b.toInt - cin.toNat), n := true, c := decide (a.toNat < b.toNat + cin.toNat) } := by
  have hz : (sbc16 a b cin == 0) = decide ((sbc16 a b cin).toNat = 0) := decide_word_eq _ 0
  rw [sbc16Flags, hz, overflow16_eq]
  rfl

/-! ### The 8-bit group on a byte variable -/

/-- `A`, the flags and the frame of an operation of the group, on any byte variable. -/
theorem exec_aluInstr_cases (op : Alu) (src : Source) (s : State) :
    ∃ t : State, exec (aluInstr op src) s = .next t ∧
      t.main.a = aluResult op s.main.a (src.value s) s.flags.c ∧
      t.flags = aluFlags op s.main.a (src.value s) s.flags.c ∧ OnlyReads [.a, .f] (src.accesses s) s t := by
  refine ⟨_, exec_aluInstr op src s, ?_, ?_, only_alu op src s⟩
  · rw [alu_a, operand_eq_value]
  · rw [alu_flags, operand_eq_value]

/-- A frame that names `A` need not name it where `A` came out as it was. -/
theorem OnlyReads.without_a {e : List BusEvent} {s t : State} (h : OnlyReads [.a, .f] e s t)
    (ha : t.main.a = s.main.a) : OnlyReads [.f] e s t := by
  refine ⟨fun n hn => ?_, h.2⟩
  by_cases hname : n = .a
  · rw [hname]
    exact congrArg BitVec.toNat ha
  · exact h.1 n (by simp_all)

/-- Settles O11: `ADD` and `ADC` are `add8` with carry 0 and with the C flag. -/
theorem addExactSum : Obligations.AddExactSum := by
  unfold Obligations.AddExactSum
  refine ⟨fun v src => ⟨encodedAs_aluInstr v .add src, encodedAs_aluInstr v .adc src⟩, fun op cin src s hop => ?_⟩
  have hsum : ∃ c : Bool, cin = c.toNat ∧ aluResult op s.main.a (src.value s) s.flags.c = add8 s.main.a (src.value s) c ∧
      aluFlags op s.main.a (src.value s) s.flags.c = add8Flags s.main.a (src.value s) c := by
    rcases hop with ⟨rfl, rfl⟩ | ⟨rfl, rfl⟩
    · exact ⟨false, rfl, rfl, rfl⟩
    · exact ⟨s.flags.c, rfl, rfl, rfl⟩
  obtain ⟨c, rfl, hresult, hflags⟩ := hsum
  obtain ⟨t, hexec, ha, hf, hframe⟩ := exec_aluInstr_cases op src s
  rw [hresult] at ha
  rw [hflags, add8Flags_eq] at hf
  refine ⟨t, hexec, by rw [ha, toNat_add8], ?_⟩
  rw [hf]
  exact ⟨rfl, rfl, rfl, rfl, rfl, rfl, hframe⟩

/-- Settles O12: `SUB` and `SBC` are `sub8` with carry 0 and with the C flag. -/
theorem subtractExactDifference : Obligations.SubtractExactDifference := by
  unfold Obligations.SubtractExactDifference
  refine ⟨fun v src => ⟨encodedAs_aluInstr v .sub src, encodedAs_aluInstr v .sbc src⟩, fun op cin src s hop => ?_⟩
  have hdiff : ∃ c : Bool, cin = c.toNat ∧
      aluResult op s.main.a (src.value s) s.flags.c = sub8 s.main.a (src.value s) c ∧
      aluFlags op s.main.a (src.value s) s.flags.c = sub8Flags s.main.a (src.value s) c := by
    rcases hop with ⟨rfl, rfl⟩ | ⟨rfl, rfl⟩
    · exact ⟨false, rfl, rfl, rfl⟩
    · exact ⟨s.flags.c, rfl, rfl, rfl⟩
  obtain ⟨c, rfl, hresult, hflags⟩ := hdiff
  obtain ⟨t, hexec, ha, hf, hframe⟩ := exec_aluInstr_cases op src s
  rw [hresult] at ha
  rw [hflags, sub8Flags_eq, ← ha] at hf
  refine ⟨t, hexec, by rw [ha, toNat_sub8], ?_⟩
  rw [hf]
  exact ⟨rfl, rfl, rfl, rfl, rfl, rfl, hframe⟩

theorem sub8_toNat_eq_zero_iff (a b : Byte) : (sub8 a b false).toNat = 0 ↔ a = b := by
  have hsub : ((sub8 a b false).toNat : Int) = ((a.toNat : Int) - b.toNat - 0) % 256 := toNat_sub8 a b false
  have ha := a.isLt
  have hb := b.isLt
  rw [← BitVec.toNat_inj]
  omega

/-- Settles O13: `CP` has the flags of `sub8` and its result is the old `A`, which the frame then need not name. -/
theorem compareKeepsAccumulator : Obligations.CompareKeepsAccumulator := by
  unfold Obligations.CompareKeepsAccumulator
  refine ⟨fun v src => encodedAs_aluInstr v .cp src, fun src s => ?_⟩
  obtain ⟨t, hcp, ha, hf, hframe⟩ := exec_aluInstr_cases .cp src s
  obtain ⟨u, hsub, _, hfu, _⟩ := exec_aluInstr_cases .sub src s
  have hflags : t.flags = sub8Flags s.main.a (src.value s) false := hf
  refine ⟨t, u, hcp, hsub, hf.trans hfu.symm, ?_, ?_, hframe.without_a ha⟩
  · rw [hflags, sub8Flags_eq]
    exact decide_eq_decide.2 (sub8_toNat_eq_zero_iff _ _)
  · rw [hflags]
    rfl

/-! ### The indexed forms (40_arith8.md, 42_logic.md) -/

/-- The low digit of a byte. -/
theorem toNat_and_0F (v : Byte) : (v &&& 0x0F).toNat = v.toNat % 16 :=
  (BitVec.toNat_and v 0x0F).trans (Nat.and_two_pow_sub_one_eq_mod v.toNat 4)

theorem decide_and_0F_eq (v n : Byte) : decide (v &&& 0x0F = n) = decide (v.toNat % 16 = n.toNat) := by
  rw [decide_byte_eq, toNat_and_0F]

/-- Settles O16: with the same byte as the operand the indexed form and the immediate form have the same result and
flags; `INC` and `DEC` are `changeMem`. -/
theorem indexedArithmetic : Obligations.IndexedArithmetic := by
  unfold Obligations.IndexedArithmetic
  refine ⟨fun v op x d => encodedAs_aluInstr v op (.atXyd x d),
    fun v x d => ⟨encodedAs_incAtXyd v x d, encodedAs_decAtXyd v x d⟩, ?_⟩
  rintro x d s _ rfl
  rw [← ea_eq_ofInt]
  refine ⟨fun op => ?_, ?_, ?_⟩
  · obtain ⟨t, hexec, ha, hf, hframe⟩ := exec_aluInstr_cases op (.atXyd x d) s
    obtain ⟨u, hexec', ha', hf', _⟩ := exec_aluInstr_cases op (.imm (s.memIn (s.ea x d))) s
    exact ⟨t, u, hexec, hexec', ha.trans ha'.symm, hf.trans hf'.symm, hframe⟩
  · refine ⟨_, exec_incAtXyd x d s, ?_, only_changeMem s _ _ _⟩
    rw [changeMem_flags, inc8Flags_eq, decide_and_0F_eq]
    rfl
  · refine ⟨_, exec_decAtXyd x d s, ?_, only_changeMem s _ _ _⟩
    rw [changeMem_flags, dec8Flags_eq, decide_and_0F_eq]
    rfl

/-! ### `ADC HL,pp` and `SBC HL,pp` (41_arith16.md R176, R177) -/

/-- Settles O19: both forms write HL and then F, with the result and the flags of `adc16` and `sbc16`. -/
theorem addSubtractWithCarryHl : Obligations.AddSubtractWithCarryHl := by
  unfold Obligations.AddSubtractWithCarryHl
  refine ⟨fun v p => ⟨encodedAs_adcHlPp v p, encodedAs_sbcHlPp v p⟩, fun p s => ?_, fun p s => ?_⟩
  · refine ⟨_, exec_adcHlPp p s, ?_⟩
    rw [putFlags_hl, setHl_hl, putFlags_flags, adc16Flags_eq]
    exact ⟨toNat_adc16 _ _ _, rfl, rfl, rfl, rfl, rfl, rfl, only_setHl_putFlags s _ _⟩
  · refine ⟨_, exec_sbcHlPp p s, ?_⟩
    rw [putFlags_hl, setHl_hl, putFlags_flags, sbc16Flags_eq]
    exact ⟨toNat_sbc16 _ _ _, rfl, rfl, rfl, rfl, rfl, rfl, only_setHl_putFlags s _ _⟩

end Sys2Proof.Machine
end

section
/-! Proofs for the family 45_general_control.md, the instructions left open above: `DAA`, `CCF`, `HALT`, `EI`, `TRAP`
and 64h. First the table of `DAA` against the model's correction; then the frames. -/

namespace Sys2Proof.Machine

/-! ### The table of `DAA` (45_general_control.md R281) -/

/-- The rows with the same flags divide the digits between them. -/
theorem daaTable_countP (n c h : Bool) (a : Byte) : daaTable.countP (fun row => row.applies n c h a) = 1 := by
  have ha := a.isLt
  cases n <;> cases c <;> cases h
  all_goals
    simp only [daaTable, DaaRow.applies, List.countP_cons, List.countP_nil, Bool.and_eq_true, decide_eq_true_eq,
      beq_iff_eq, Bool.false_eq_true, reduceCtorEq, true_and, false_and, and_false, if_false]
    split_ifs <;> omega

/-- When the correction has a high part, as a condition on the flags and the digits. -/
theorem daaCarry_iff (a : Byte) (fl : Flags) : daaCarry a fl = true ↔
    fl.c = true ∨ 9 < a.toNat / 16 ∨ (a.toNat / 16 = 9 ∧ 9 < a.toNat % 16 ∧ (fl.n = true ∨ fl.h = false)) := by
  simp [daaCarry, daaWide, or_assoc]

/-- The row that applies has the adjustment and the carry of the model: row by row, the ranges of the digits decide both
parts of the correction. -/
theorem daaTable_row {row : DaaRow} (hrow : row ∈ daaTable) {a : Byte} {fl : Flags}
    (happlies : row.applies fl.n fl.c fl.h a = true) :
    daaAdjust a fl = row.adjust.toNat ∧ (daaCarry a fl = true ↔ row.cAfter = true) := by
  simp only [DaaRow.applies, Bool.and_eq_true, beq_iff_eq, decide_eq_true_eq] at happlies
  obtain ⟨⟨⟨⟨⟨⟨hn, hc⟩, hh⟩, hlow⟩, hlow'⟩, hhigh⟩, hhigh'⟩ := happlies
  simp only [daaTable, List.mem_cons, List.not_mem_nil, or_false] at hrow
  simp only [daaAdjust, daaLow, daaCarry_iff, ← hn, ← hc, ← hh]
  rcases hrow with rfl | rfl | rfl | rfl | rfl | rfl | rfl | rfl | rfl | rfl | rfl | rfl | rfl | rfl | rfl | rfl |
    rfl | rfl | rfl | rfl | rfl | rfl
  all_goals
    simp only [Bool.false_eq_true, reduceCtorEq, or_true, true_or, or_false, false_or, and_true, and_false, if_true,
      BitVec.ofNat_eq_ofNat, BitVec.reduceToNat, iff_true, iff_false] at hlow hlow' hhigh hhigh' ⊢
  all_goals
    split_ifs <;> omega

/-- The result of `DAA` by the row that applies: added, or subtracted when N is 1. -/
theorem daaResult_of_row {row : DaaRow} (hrow : row ∈ daaTable) {a : Byte} {fl : Flags}
    (happlies : row.applies fl.n fl.c fl.h a = true) :
    daaResult a fl = if fl.n then a - row.adjust else a + row.adjust := by
  rw [daaResult, (daaTable_row hrow happlies).1, BitVec.ofNat_toNat, BitVec.setWidth_eq]

/-- The flags of `DAA`, those the table names; H is a free value (D6). -/
theorem daaFlags_eq (a : Byte) (fl : Flags) (h : Bool) :
    daaFlags a fl h = { s := (daaResult a fl).getLsbD 7, z := decide ((daaResult a fl).toNat = 0), h := h, pv := evenOnes (daaResult a fl), n := fl.n, c := daaCarry a fl } := by
  have hz : (daaResult a fl == 0) = decide ((daaResult a fl).toNat = 0) := decide_byte_eq _ 0
  rw [daaFlags, hz, parityEven_eq_evenOnes]
  rfl

theorem decimalAdjust_a (s : State) : s.decimalAdjust.main.a = daaResult s.main.a s.flags := rfl

theorem decimalAdjust_flags (s : State) :
    s.decimalAdjust.flags = daaFlags s.main.a s.flags (Config.freeBit (s.draws + 2)) := putFlags_flags _ _

theorem only_decimalAdjust (s : State) : OnlyRegs [.a, .f] s s.decimalAdjust := only_setA_putFlags s _ _

/-- Settles O21: every case has one row, and in each row the correction of the model is the printed one. -/
theorem decimalAdjustFollowsTable : Obligations.DecimalAdjustFollowsTable := by
  unfold Obligations.DecimalAdjustFollowsTable
  refine ⟨encodedAs_daa, daaTable_countP, fun row s hrow happlies => ?_⟩
  have hcarry : daaCarry s.main.a s.flags = row.cAfter := Bool.eq_iff_iff.2 (daaTable_row hrow happlies).2
  refine ⟨_, exec_daa s, daaResult_of_row hrow happlies, ?_⟩
  rw [decimalAdjust_flags, daaFlags_eq, decimalAdjust_a]
  exact ⟨rfl, rfl, rfl, rfl, hcarry, only_decimalAdjust s⟩

/-! ### `CCF`, `HALT` and `EI` (R284, R286, R287) -/

/-- Settles O23: `CCF` writes F alone. -/
theorem complementCarryFlag : Obligations.ComplementCarryFlag := by
  unfold Obligations.ComplementCarryFlag
  exact ⟨encodedAs_ccf, fun s => ⟨_, exec_ccf s, putFlags_flags _ _, only_putFlags s _⟩⟩

/-- Settles O25: `HALT` writes one hidden bit, `EI` one hidden bit and the two flip-flops. -/
theorem haltAndEnableInterrupts : Obligations.HaltAndEnableInterrupts := by
  unfold Obligations.HaltAndEnableInterrupts
  refine ⟨fun v => ⟨encodedAs_halt v, encodedAs_ei v⟩, fun s => ?_, fun s => ?_⟩
  · exact ⟨_, exec_halt s, rfl, SameRegsBut.refl [] s, SameControl.refl s, SameMem.refl s, rfl⟩
  · exact ⟨_, exec_ei s, rfl, rfl, rfl, (only_setIffs s true true).1, SameControl.refl s, SameMem.refl s, rfl⟩

/-! ### `TRAP` and 64h (R295, R296) -/

/-- A debug stop moves `pc` and sets `debug_stopped`, and nothing else. -/
theorem setPc_debugStop_frame (s : State) (w : Word) :
    SameRegsBut [.pc] s (s.setPc w).debugStop ∧
      SameControl s { (s.setPc w).debugStop with debugStopped := s.debugStopped } ∧
      SameMem s (s.setPc w).debugStop ∧ Accesses s (s.setPc w).debugStop [] :=
  ⟨frame_setPc s w, SameControl.refl s, SameMem.refl s, rfl⟩

/-- Settles O27: on a TSK80A_D each is a debug stop or nothing, on a TSK80A a fault by name or nothing. -/
theorem debugStopInstructions : Obligations.DebugStopInstructions := by
  unfold Obligations.DebugStopInstructions
  refine ⟨encodedAs_trap, encodedAs_breakpoint64, fun s hv he => exec_trap_disabled hv he, fun s hv he => ?_,
    fun s hv => exec_trap_tsk80a hv, fun s hv => ?_, fun s hv => exec_breakpoint64_tsk80a hv⟩
  · exact ⟨_, exec_trap_enabled hv he, rfl, rfl, setPc_debugStop_frame s _⟩
  · exact ⟨_, exec_breakpoint64_tsk80aD hv, rfl, rfl, setPc_debugStop_frame s _⟩

end Sys2Proof.Machine
end

section
/-! Proofs for the families 46_jump_call_return.md and 47_rotate_shift_bit.md, the instructions left open above: `CALL`
and `RST`, `BIT`, and the indexed CB forms. -/

namespace Sys2Proof.Machine

/-! ### `CALL` and `RST` (46_jump_call_return.md R308, R309, R314) -/

/-- An instruction that saves `pc` and goes to `target`. -/
theorem exec_enters {i : Instr} {s : State} {target : Word} (hexec : exec i s = .next (s.enterAt target)) :
    ∃ t : State, exec i s = .next t ∧ t.pc = target ∧ t.sp = s.sp - 2 ∧
      OnlyStoresWord [.sp, .pc] (s.sp - 2) s.pc
        [.memWrite (s.sp - 1) (hi s.pc), .memWrite (s.sp - 2) (lo s.pc)] s t :=
  ⟨_, hexec, enterAt_pc s target, enterAt_sp s target, only_enterAt s target⟩

theorem exec_callCcNn_of_cond {cc : Cond} {s : State} (nn : Word) (h : condTrue cc s) :
    exec (.callCcNn cc nn) s = .next (s.enterAt nn) := by
  rw [exec_callCcNn, if_pos ((condHolds_iff cc s).2 h)]

theorem exec_callCcNn_of_not_cond {cc : Cond} {s : State} (nn : Word) (h : ¬condTrue cc s) :
    exec (.callCcNn cc nn) s = .next s := by
  rw [exec_callCcNn, if_neg (mt (condHolds_iff cc s).1 h)]

/-- A restart address has no high byte (R104). -/
theorem toNat_join_zero (p : Byte) : (join 0 p).toNat = p.toNat := (join_toNat 0 p).trans (Nat.zero_add p.toNat)

/-- Settles O30: each taken form is `enterAt`, with the target of the operand. -/
theorem callAndRestart : Obligations.CallAndRestart := by
  unfold Obligations.CallAndRestart
  refine ⟨encodedAs_callNn, encodedAs_callCcNn, fun v ttt => encodedAs_rstP v (isRestart_field ttt), ?_⟩
  rintro s _ rfl
  refine ⟨fun nn => exec_enters (exec_callNn nn s), fun cc nn hcond => exec_enters (exec_callCcNn_of_cond nn hcond),
    fun cc nn hnot => exec_callCcNn_of_not_cond nn hnot, fun p => ?_⟩
  obtain ⟨t, hexec, hpc, hrest⟩ := exec_enters (exec_rstP p s)
  exact ⟨t, hexec, hpc ▸ toNat_join_zero p, hrest⟩

/-! ### `BIT` (47_rotate_shift_bit.md R365 to R368) -/

/-- The six flags of `BIT`, each written out. -/
theorem bitFlags_eq (v : Byte) (b : BitVec 3) (old : Flags) :
    bitFlags v b old = { s := decide (b = 7 ∧ v.getLsbD 7 = true), z := !v.getLsbD b.toNat, h := true, pv := !v.getLsbD b.toNat, n := false, c := old.c } := by
  have hs : (b == 7 && v.getLsbD 7) = decide (b = 7 ∧ v.getLsbD 7 = true) := by
    rw [Bool.decide_and, Bool.decide_eq_true]
    rfl
  rw [bitFlags, hs]

@[simp] theorem testBit_flags (s : State) (b : BitVec 3) (o : Operand) :
    (s.testBit b o).flags = bitFlags (s.operand o) b s.flags := putFlags_flags _ _

theorem only_testBit_reg (s : State) (b : BitVec 3) (r : Reg8) : OnlyRegs [.f] s (s.testBit b (.reg r)) :=
  only_putFlags s _

theorem only_testBit_mem (s : State) (b : BitVec 3) (a : Word) :
    OnlyReads [.f] [.memRead a (s.memIn a)] s (s.testBit b (.mem a)) :=
  (only_memRead s a).trans (only_putFlags _ _) (List.nil_subset _) (List.Subset.refl _)

/-- An instruction that is `testBit` on a memory byte. -/
theorem exec_tests_mem {i : Instr} {s : State} {b : BitVec 3} {a : Word}
    (hexec : exec i s = .next (s.testBit b (.mem a))) :
    ∃ t : State, exec i s = .next t ∧
      t.flags = { s := decide (b = 7 ∧ (s.memIn a).getLsbD 7 = true), z := !(s.memIn a).getLsbD b.toNat, h := true, pv := !(s.memIn a).getLsbD b.toNat, n := false, c := s.flags.c } ∧
      OnlyReads [.f] [.memRead a (s.memIn a)] s t :=
  ⟨_, hexec, (testBit_flags s b _).trans (bitFlags_eq _ b _), only_testBit_mem s b a⟩

/-- Settles O37: both forms are `testBit`, which reads its operand and writes F. -/
theorem bitTest : Obligations.BitTest := by
  unfold Obligations.BitTest
  refine ⟨fun v b r => ⟨encodedAs_bitR v b r, encodedAs_bitAtHl v b⟩, fun b r s => ?_, ?_⟩
  · exact ⟨_, exec_bitR b r s, (testBit_flags s b _).trans (bitFlags_eq _ b _), only_testBit_reg s b r⟩
  · rintro b s _ rfl
    exact exec_tests_mem (exec_bitAtHl b s)

/-! ### The indexed CB forms (47_rotate_shift_bit.md, sections 3 and 5 to 7) -/

/-- Settles O35: each form is the shared operation on a memory byte, at the effective address. -/
theorem indexedBitOperations : Obligations.IndexedBitOperations := by
  unfold Obligations.IndexedBitOperations
  refine ⟨encodedAs_rotAtXyd,
    fun v b x d => ⟨encodedAs_bitAtXyd v b x d, encodedAs_resAtXyd v b x d, encodedAs_setAtXyd v b x d⟩, ?_⟩
  rintro x d s _ _ rfl rfl
  rw [← ea_eq_ofInt]
  refine ⟨fun op => ?_, fun b => exec_tests_mem (exec_bitAtXyd b x d s), fun b => ?_, fun b => ?_⟩
  · refine ⟨_, rotResult op (s.memIn (s.ea x d)) s.flags.c, exec_rotAtXyd op x d s, fun k hk => ?_, ?_,
      only_changeMem s _ _ _⟩
    · exact rotResult_getLsbD op _ _ hk
    · rw [rotateMem_flags, shiftFlags_eq, rotOut_eq_rotatedOut]
  · exact ⟨_, _, exec_setAtXyd b x d s, fun k _ => getLsbD_or_bitMask _ b k, only_setBitMem s b _⟩
  · exact ⟨_, _, exec_resAtXyd b x d s, fun k hk => getLsbD_and_not_bitMask _ b hk, only_resBitMem s b _⟩

end Sys2Proof.Machine
end

section
/-! Proofs for the families 48_io.md and 49_exchange_block.md, the instructions left open above: one pass of the block
instructions, and the exchange of the stack top. First the two directions and the repetition, which all block
instructions share; then each group as one operation, whole. -/

namespace Sys2Proof.Machine

/-! ### Direction and repetition (49_exchange_block.md R424) -/

/-- What a pass adds to the address registers. -/
def stepOf (up : Bool) : Word := if up then 1 else -1

theorem add_stepOf (w : Word) (up : Bool) : w + stepOf up = if up then w + 1 else w - 1 := by
  cases up with
  | true => rfl
  | false => exact (BitVec.sub_eq_add_neg w 1).symm

theorem only_repeatWhen (s : State) (again : Bool) : OnlyRegs [.pc] s (s.repeatWhen again) := by
  cases again with
  | true => exact only_setPc s _
  | false => exact (OnlyReads.refl s).mono (List.nil_subset _)

@[simp] theorem repeatWhen_main (s : State) (again : Bool) : (s.repeatWhen again).main = s.main := by
  cases again <;> rfl

@[simp] theorem repeatWhen_pc (s : State) (again : Bool) :
    (s.repeatWhen again).pc = if again then s.pc - 2 else s.pc := by
  cases again <;> rfl

@[simp] theorem repeatWhen_hl (s : State) (again : Bool) : (s.repeatWhen again).hl = s.hl := by
  cases again <;> rfl

@[simp] theorem repeatWhen_de (s : State) (again : Bool) : (s.repeatWhen again).de = s.de := by
  cases again <;> rfl

@[simp] theorem repeatWhen_bc (s : State) (again : Bool) : (s.repeatWhen again).bc = s.bc := by
  cases again <;> rfl

@[simp] theorem repeatWhen_flags (s : State) (again : Bool) : (s.repeatWhen again).flags = s.flags := by
  cases again <;> rfl

/-- A word counter that was decremented is zero when it was one. -/
theorem word_sub_one_ne_zero (w : Word) : (w - 1 != 0) = decide (w.toNat ≠ 1) := by
  have hzero : w - 1 = 0 ↔ w.toNat = 1 := by bv_omega
  rw [bne, decide_not, ← decide_eq_decide.2 hzero]
  rfl

/-- A byte counter that was decremented is zero when it was one. -/
theorem byte_sub_one_eq_zero (v : Byte) : (v - 1 == 0) = decide (v = 1) := decide_eq_decide.2 (dec8_eq_zero_iff v)

/-! ### Block transfer (49_exchange_block.md, section 4) -/

/-- The four block loads are one operation. -/
theorem exec_blockLoad {i : Instr} {up again : Bool} (s : State)
    (hform : (i, up, again) ∈
      [(Instr.ldi, true, false), (.ldir, true, true), (.ldd, false, false), (.lddr, false, true)]) :
    exec i s = .next ((s.ldStep (stepOf up)).repeatWhen (again && s.ldAgain)) := by
  simp only [List.mem_cons, List.not_mem_nil, or_false, Prod.mk.injEq] at hform
  obtain ⟨rfl, rfl, rfl⟩ | ⟨rfl, rfl, rfl⟩ | ⟨rfl, rfl, rfl⟩ | ⟨rfl, rfl, rfl⟩ := hform
  · exact exec_ldi s
  · exact exec_ldir s
  · exact exec_ldd s
  · exact exec_lddr s

theorem ldStep_hl (s : State) (dir : Word) : (s.ldStep dir).hl = s.hl + dir := join_hi_lo _

theorem ldStep_de (s : State) (dir : Word) : (s.ldStep dir).de = s.de + dir := join_hi_lo _

theorem ldStep_bc (s : State) (dir : Word) : (s.ldStep dir).bc = s.bc - 1 := join_hi_lo _

theorem ldStep_flags (s : State) (dir : Word) : (s.ldStep dir).flags = ldStepFlags (s.bc - 1) s.flags :=
  putFlags_flags _ _

theorem ldStep_pc (s : State) (dir : Word) : (s.ldStep dir).pc = s.pc := (keepsPc_ldStep s dir).pc

/-- One read, then one write at another address (20_memory.md R65). -/
theorem only_memRead_memWrite_at (s : State) (a b : Word) (v : Byte) :
    OnlyStores [] b v [.memRead a (s.memIn a), .memWrite b v] s ((s.memRead a).memWrite b v) :=
  OnlyStores.after (only_memRead s a) (only_memWrite _ b v) (List.Subset.refl []) (List.Subset.refl [])

theorem only_setHl_setDe_setBc (s : State) (u v w : Word) :
    OnlyReads [.h, .l, .d, .e, .b, .c] [] s (((s.setHl u).setDe v).setBc w) :=
  have hfirst : OnlyReads [.h, .l, .d, .e] [] s ((s.setHl u).setDe v) :=
    (only_setHl s u).trans (only_setDe _ v) (by simp) (by simp)
  hfirst.trans (only_setBc _ w) (by simp) (by simp)

theorem only_ldStep (s : State) (dir : Word) :
    OnlyStores [.h, .l, .d, .e, .b, .c, .f] s.de (s.memIn s.hl)
      [.memRead s.hl (s.memIn s.hl), .memWrite s.de (s.memIn s.hl)] s (s.ldStep dir) :=
  have hpairs : OnlyReads [.h, .l, .d, .e, .b, .c, .f] [] _ (s.ldStep dir) :=
    (only_setHl_setDe_setBc _ _ _ _).trans (only_putFlags _ _) (by simp) (by simp)
  (only_memRead_memWrite_at s s.hl s.de _).before hpairs (List.nil_subset _) (List.Subset.refl _)

/-- Settles O45: every form is one `ldStep` and then the repetition while the decremented BC is not zero. -/
theorem blockTransfer : Obligations.BlockTransfer := by
  unfold Obligations.BlockTransfer
  refine ⟨fun v => ⟨encodedAs_block v (by simp [blockCodes]), encodedAs_block v (by simp [blockCodes]),
    encodedAs_block v (by simp [blockCodes]), encodedAs_block v (by simp [blockCodes])⟩, ?_⟩
  rintro i up again s _ hform rfl
  have hagain : s.ldAgain = decide (s.bc.toNat ≠ 1) := word_sub_one_ne_zero s.bc
  refine ⟨_, exec_blockLoad s hform, ?_, ?_, ?_, ?_, ?_,
    (only_ldStep s _).before (only_repeatWhen _ _) (by simp) (by simp)⟩
  · rw [repeatWhen_hl, ldStep_hl, add_stepOf]
  · rw [repeatWhen_de, ldStep_de, add_stepOf]
  · rw [repeatWhen_bc, ldStep_bc, toNat_word_sub_one]
  · simp [ldStep_pc, hagain]
  · rw [repeatWhen_flags, ldStep_flags, ldStepFlags, word_sub_one_ne_zero]

/-! ### Block search (49_exchange_block.md, section 5) -/

/-- The four block compares are one operation. -/
theorem exec_blockCompare {i : Instr} {up again : Bool} (s : State)
    (hform : (i, up, again) ∈
      [(Instr.cpi, true, false), (.cpir, true, true), (.cpd, false, false), (.cpdr, false, true)]) :
    exec i s = .next ((s.cpStep (stepOf up)).repeatWhen (again && s.cpAgain)) := by
  simp only [List.mem_cons, List.not_mem_nil, or_false, Prod.mk.injEq] at hform
  obtain ⟨rfl, rfl, rfl⟩ | ⟨rfl, rfl, rfl⟩ | ⟨rfl, rfl, rfl⟩ | ⟨rfl, rfl, rfl⟩ := hform
  · exact exec_cpi s
  · exact exec_cpir s
  · exact exec_cpd s
  · exact exec_cpdr s

theorem byte_sub_eq_zero (v w : Byte) : (v - w == 0) = decide (v = w) :=
  decide_eq_decide.2 (sub_eq_zero (a := v) (b := w))

/-- A repeating search goes on while BC is not exhausted and the byte is another one (R421, R423). -/
theorem cpAgain_eq (s : State) : s.cpAgain = decide (s.bc.toNat ≠ 1 ∧ s.main.a ≠ s.memIn s.hl) := by
  have hmatch : (s.main.a - s.memIn s.hl != 0) = decide (s.main.a ≠ s.memIn s.hl) := by
    rw [bne, byte_sub_eq_zero, decide_not]
  rw [State.cpAgain, word_sub_one_ne_zero, hmatch, Bool.decide_and]

theorem cpStepFlags_eq (a v : Byte) (bc : Word) (old : Flags) :
    cpStepFlags a v (bc - 1) old = { s := (a - v).getLsbD 7, z := decide (a = v), h := decide (a.toNat % 16 < v.toNat % 16), pv := decide (bc.toNat ≠ 1), n := true, c := old.c } := by
  rw [cpStepFlags, byte_sub_eq_zero, word_sub_one_ne_zero]
  rfl

theorem cpStep_hl (s : State) (dir : Word) : (s.cpStep dir).hl = s.hl + dir := join_hi_lo _

theorem cpStep_bc (s : State) (dir : Word) : (s.cpStep dir).bc = s.bc - 1 := join_hi_lo _

theorem cpStep_flags (s : State) (dir : Word) :
    (s.cpStep dir).flags = cpStepFlags s.main.a (s.memIn s.hl) (s.bc - 1) s.flags := putFlags_flags _ _

theorem cpStep_pc (s : State) (dir : Word) : (s.cpStep dir).pc = s.pc := (keepsPc_cpStep s dir).pc

theorem only_cpStep (s : State) (dir : Word) :
    OnlyReads [.h, .l, .b, .c, .f] [.memRead s.hl (s.memIn s.hl)] s (s.cpStep dir) :=
  have hpairs : OnlyReads [.h, .l, .b, .c] [] (s.memRead s.hl) (((s.memRead s.hl).setHl (s.hl + dir)).setBc (s.bc - 1)) :=
    (only_setHl _ _).trans (only_setBc _ _) (by simp) (by simp)
  have hread := (only_memRead s s.hl).trans hpairs (List.nil_subset _) (List.Subset.refl _)
  hread.trans (only_putFlags _ _) (by simp) (by simp)

/-- Settles O46: every form is one `cpStep` and then the repetition while BC is not exhausted and nothing matched. -/
theorem blockSearch : Obligations.BlockSearch := by
  unfold Obligations.BlockSearch
  refine ⟨fun v => ⟨encodedAs_block v (by simp [blockCodes]), encodedAs_block v (by simp [blockCodes]),
    encodedAs_block v (by simp [blockCodes]), encodedAs_block v (by simp [blockCodes])⟩, ?_⟩
  rintro i up again s _ hform rfl
  refine ⟨_, exec_blockCompare s hform, ?_, ?_, ?_, ?_,
    (only_cpStep s _).trans (only_repeatWhen _ _) (by simp) (by simp)⟩
  · rw [repeatWhen_hl, cpStep_hl, add_stepOf]
  · rw [repeatWhen_bc, cpStep_bc, toNat_word_sub_one]
  · simp [cpStep_pc, cpAgain_eq]
  · rw [repeatWhen_flags, cpStep_flags, cpStepFlags_eq]

/-! ### Block input (48_io.md, section 3) -/

/-- One pass of a block input, with the values that bits 5 and 3 of F take and the free values drawn after it. -/
def State.ioInPass (s : State) (dir : Word) (f5 f3 : Bool) (drawn : Nat) (again : Bool) : State :=
  State.repeatWhen { (s.ioInStep dir).putFlagsWith (ioStepFlags (s.main.b - 1) s.flags) f5 f3 with draws := drawn } again

/-- The four block inputs are one operation; they differ in where bits 5 and 3 of F come from (R394 to R397). -/
theorem exec_blockInput {i : Instr} {up again : Bool} (s : State)
    (hform : (i, up, again) ∈
      [(Instr.ini, true, false), (.inir, true, true), (.ind, false, false), (.indr, false, true)]) :
    ∃ (f5 f3 : Bool) (drawn : Nat),
      exec i s = .next (s.ioInPass (stepOf up) f5 f3 drawn (again && s.ioAgain)) ∧
        (i = .ini → f5 = (s.main.b - 1).getLsbD 5 ∧ f3 = (s.main.b - 1).getLsbD 3) := by
  simp only [List.mem_cons, List.not_mem_nil, or_false, Prod.mk.injEq] at hform
  obtain ⟨rfl, rfl, rfl⟩ | ⟨rfl, rfl, rfl⟩ | ⟨rfl, rfl, rfl⟩ | ⟨rfl, rfl, rfl⟩ := hform
  · exact ⟨_, _, _, exec_ini s, fun _ => ⟨rfl, rfl⟩⟩
  · exact ⟨_, _, _, exec_inir s, nofun⟩
  · exact ⟨_, _, _, exec_ind s, nofun⟩
  · exact ⟨_, _, _, exec_indr s, nofun⟩

theorem ioAgain_eq (s : State) : s.ioAgain = decide (s.main.b ≠ 1) := by
  rw [State.ioAgain, bne, byte_sub_one_eq_zero, decide_not]

theorem ioStepFlags_eq (b : Byte) (old : Flags) :
    ioStepFlags (b - 1) old = { old with z := decide (b = 1), n := true } := by
  rw [ioStepFlags, byte_sub_one_eq_zero]

section
variable (s : State) (dir : Word) (f5 f3 : Bool) (drawn : Nat) (again : Bool)

theorem ioInPass_hl : (s.ioInPass dir f5 f3 drawn again).hl = s.hl + dir := by
  rw [State.ioInPass, repeatWhen_hl]
  exact join_hi_lo _

theorem ioInPass_b : (s.ioInPass dir f5 f3 drawn again).main.b = s.main.b - 1 := by
  rw [State.ioInPass, repeatWhen_main]
  rfl

theorem ioInPass_f : (s.ioInPass dir f5 f3 drawn again).main.f = (ioStepFlags (s.main.b - 1) s.flags).pack f5 f3 := by
  rw [State.ioInPass, repeatWhen_main]
  rfl

theorem ioInPass_flags : (s.ioInPass dir f5 f3 drawn again).flags = ioStepFlags (s.main.b - 1) s.flags := by
  rw [State.flags, ioInPass_f, ofByte_pack]

theorem ioInPass_pc : (s.ioInPass dir f5 f3 drawn again).pc = if again then s.pc - 2 else s.pc := by
  have hkept : (s.ioInStep dir).pc = s.pc := (keepsPc_ioInStep s dir).pc
  rw [State.ioInPass, repeatWhen_pc, ← hkept]
  rfl

theorem only_ioInPass :
    OnlyStores [.h, .l, .b, .f, .pc] s.hl s.sfrIn [.ioRead s.portBC s.sfrIn, .memWrite s.hl s.sfrIn] s
      (s.ioInPass dir f5 f3 drawn again) :=
  have hstore := OnlyStores.after (only_ioRead s s.portBC) (only_memWrite _ s.hl s.sfrIn) (List.Subset.refl [])
    (List.Subset.refl [])
  have hregs : OnlyStores [.h, .l, .b] s.hl s.sfrIn _ s (s.ioInStep dir) :=
    (hstore.before (only_setHl _ _) (List.nil_subset _) (List.Subset.refl _)).before (only_setB _ _) (by simp) (by simp)
  have hflags : OnlyStores [.h, .l, .b, .f] s.hl s.sfrIn _ s
      { (s.ioInStep dir).putFlagsWith (ioStepFlags (s.main.b - 1) s.flags) f5 f3 with draws := drawn } :=
    hregs.before (only_putFlagsWith _ _ f5 f3) (by simp) (by simp)
  hflags.before (only_repeatWhen _ again) (by simp) (by simp)

end

/-- Settles O41: every form is one `ioInPass`, whose port has the old `B`. -/
theorem blockInput : Obligations.BlockInput := by
  unfold Obligations.BlockInput
  refine ⟨fun v => ⟨encodedAs_block v (by simp [blockCodes]), encodedAs_block v (by simp [blockCodes]),
    encodedAs_block v (by simp [blockCodes]), encodedAs_block v (by simp [blockCodes])⟩, ?_⟩
  rintro i up again s _ hform rfl
  obtain ⟨f5, f3, drawn, hexec, hini⟩ := exec_blockInput s hform
  refine ⟨_, hexec, ?_, ioInPass_b .., ?_, ?_, fun hi => ?_, only_ioInPass ..⟩
  · rw [ioInPass_hl, add_stepOf]
  · simp [ioInPass_pc, ioAgain_eq]
  · rw [ioInPass_flags, ioStepFlags_eq]
  · obtain ⟨h5, h3⟩ := hini hi
    rw [ioInPass_f, ← h5, ← h3]
    exact pack_bits _ f5 f3

/-! ### Block output (48_io.md, section 4) -/

/-- The four block outputs are one operation. -/
theorem exec_blockOutput {i : Instr} {up again : Bool} (s : State)
    (hform : (i, up, again) ∈
      [(Instr.outi, true, false), (.otir, true, true), (.outd, false, false), (.otdr, false, true)]) :
    exec i s = .next ((s.ioOut (stepOf up)).repeatWhen (again && s.ioAgain)) := by
  simp only [List.mem_cons, List.not_mem_nil, or_false, Prod.mk.injEq] at hform
  obtain ⟨rfl, rfl, rfl⟩ | ⟨rfl, rfl, rfl⟩ | ⟨rfl, rfl, rfl⟩ | ⟨rfl, rfl, rfl⟩ := hform
  · exact exec_outi s
  · exact exec_otir s
  · exact exec_outd s
  · exact exec_otdr s

theorem ioOut_hl (s : State) (dir : Word) : (s.ioOut dir).hl = s.hl + dir := join_hi_lo _

theorem ioOut_b (s : State) (dir : Word) : (s.ioOut dir).main.b = s.main.b - 1 := rfl

theorem ioOut_flags (s : State) (dir : Word) : (s.ioOut dir).flags = ioStepFlags (s.main.b - 1) s.flags :=
  putFlags_flags _ _

theorem ioOut_pc (s : State) (dir : Word) : (s.ioOut dir).pc = s.pc := (keepsPc_ioOut s dir).pc

theorem only_ioOut (s : State) (dir : Word) :
    OnlyReads [.h, .l, .b, .f]
      [.memRead s.hl (s.memIn s.hl), .ioWrite (join (s.main.b - 1) s.main.c) (s.memIn s.hl)] s (s.ioOut dir) :=
  have hread : OnlyReads [.b] [.memRead s.hl (s.memIn s.hl)] s ((s.memRead s.hl).setB (s.main.b - 1)) :=
    (only_memRead s s.hl).trans (only_setB _ _) (List.nil_subset _) (List.Subset.refl _)
  have hwrite := hread.trans (only_ioWrite _ (join (s.main.b - 1) s.main.c) (s.memIn s.hl)) (List.Subset.refl _)
    (List.nil_subset _)
  have hregs : OnlyReads [.h, .l, .b] _ s _ := hwrite.trans (only_setHl _ (s.hl + dir)) (by simp) (by simp)
  hregs.trans (only_putFlags _ _) (by simp) (by simp)

/-- Settles O42: every form is one `ioOut`, whose port has the decremented `B`, and then the repetition. -/
theorem blockOutput : Obligations.BlockOutput := by
  unfold Obligations.BlockOutput
  refine ⟨fun v => ⟨encodedAs_block v (by simp [blockCodes]), encodedAs_block v (by simp [blockCodes]),
    encodedAs_block v (by simp [blockCodes]), encodedAs_block v (by simp [blockCodes])⟩, ?_⟩
  rintro i up again s _ hform rfl
  refine ⟨_, exec_blockOutput s hform, ?_, ?_, ?_, ?_,
    (only_ioOut s _).trans (only_repeatWhen _ _) (by simp) (by simp)⟩
  · rw [repeatWhen_hl, ioOut_hl, add_stepOf]
  · rw [repeatWhen_main, ioOut_b]
  · simp [ioOut_pc, ioAgain_eq]
  · rw [repeatWhen_flags, ioOut_flags, ioStepFlags_eq]

/-! ### The exchange of the stack top (49_exchange_block.md R413 to R415) -/

theorem peek_memWrite_high_first (s : State) (a w x : Word) :
    ((s.memWrite (a + 1) (hi w)).memWrite a (lo w)).peek x =
      if x = a ∧ s.kindAt a = .ram then lo w
      else if x = a + 1 ∧ s.kindAt (a + 1) = .ram then hi w else s.peek x := by
  simp

/-- A word stored high byte first stands as one stored low byte first (D22). -/
theorem storesWord_memWrite_high_first (s : State) (a w : Word) :
    StoresWord s ((s.memWrite (a + 1) (hi w)).memWrite a (lo w)) a w := by
  have hne : a + 1 ≠ a := by bv_omega
  refine ⟨fun x hx hx1 => ?_, fun h => ?_, fun h => ?_, fun h => ?_, fun h => ?_⟩ <;>
    rw [peek_memWrite_high_first] <;> simp only [*, if_true, if_false, and_self, and_false, false_and, hne.symm]

theorem only_memWrite_high_first (s : State) (a w : Word) :
    OnlyStoresWord [] a w [.memWrite (a + 1) (hi w), .memWrite a (lo w)] s
      ((s.memWrite (a + 1) (hi w)).memWrite a (lo w)) :=
  have hhigh := only_memWrite s (a + 1) (hi w)
  have hlow := only_memWrite (s.memWrite (a + 1) (hi w)) a (lo w)
  ⟨hhigh.1.trans hlow.1 (List.Subset.refl _) (List.Subset.refl _), hhigh.2.1.trans hlow.2.1,
    storesWord_memWrite_high_first s a w, hhigh.2.2.2.trans hlow.2.2.2⟩

/-- Two reads, then two writes, high byte first. -/
theorem only_exchangeTop (s : State) (w : Word) :
    OnlyStoresWord [] s.sp w
      [.memRead s.sp (s.memIn s.sp), .memRead (s.sp + 1) ((s.memRead s.sp).memIn (s.sp + 1)),
        .memWrite (s.sp + 1) (hi w), .memWrite s.sp (lo w)] s (s.exchangeTop w) :=
  OnlyStoresWord.after (only_memRead16 s s.sp) (only_memWrite_high_first _ s.sp w) (List.Subset.refl [])
    (List.Subset.refl [])

/-- Settles O44: both forms are `exchangeTop` with the old register, and then a write of the register with the word read
before. -/
theorem exchangeStackTop : Obligations.ExchangeStackTop := by
  unfold Obligations.ExchangeStackTop
  refine ⟨encodedAs_exAtSpHl, encodedAs_exAtSpXy, ?_⟩
  rintro s _ _ rfl rfl
  refine ⟨?_, fun x => ?_⟩
  · have hframe := (only_exchangeTop s s.hl).before (only_setHl _ s.popIn) (List.nil_subset _) (List.Subset.refl _)
    have hh : hi s.hl = s.main.h := hi_join _ _
    have hl : lo s.hl = s.main.l := lo_join _ _
    rw [hh, hl] at hframe
    exact ⟨_, exec_exAtSpHl s, setHl_hl _ _, hframe⟩
  · exact ⟨_, exec_exAtSpXy x s, setIdx_idx _ x _,
      (only_exchangeTop s _).before (only_setIdx _ x s.popIn) (List.nil_subset _) (List.Subset.refl _)⟩

end Sys2Proof.Machine
end

section
/-! Proofs about what comes at a boundary before the interrupts: reset, the debug host, a granted bus, and the halt state
where nothing is accepted (60_exceptions.md R443, R444, R470 to R482). -/

namespace Sys2Proof.Machine

/-! ### The order of the events (R444) -/

theorem runBoundary_of_granted {s : State} (b : Boundary) (h : s.busGranted = true) :
    s.runBoundary b = .next { s with busGranted := b.req } := by
  rw [State.runBoundary, if_pos h]

theorem runBoundary_of_request {s : State} {b : Boundary} (hg : s.busGranted = false) (hr : b.req = true) :
    s.runBoundary b = .next { s with busGranted := true } := by
  rw [State.runBoundary, hg, if_neg Bool.false_ne_true, if_pos hr]

/-- The processor has the buses and nobody asks for them: the interrupts come next. -/
theorem runBoundary_of_own_bus {s : State} {b : Boundary} (hg : s.busGranted = false) (hr : b.req = false) :
    s.runBoundary b =
      if s.nmiPending then .next s.acceptNmi
      else if b.int && s.iff1 && !s.eiShadow then s.acceptInt
      else if s.halted then .next s
      else s.runInstr := by
  rw [State.runBoundary, hg, hr, if_neg Bool.false_ne_true, if_neg Bool.false_ne_true]

theorem runBoundary_of_nmi {s : State} {b : Boundary} (hg : s.busGranted = false) (hr : b.req = false)
    (hn : s.nmiPending = true) : s.runBoundary b = .next s.acceptNmi := by
  rw [runBoundary_of_own_bus hg hr, if_pos hn]

theorem runBoundary_of_int {s : State} {b : Boundary} (hg : s.busGranted = false) (hr : b.req = false)
    (hn : s.nmiPending = false) (hint : b.int = true) (h1 : s.iff1 = true) (he : s.eiShadow = false) :
    s.runBoundary b = s.acceptInt := by
  rw [runBoundary_of_own_bus hg hr, hn, hint, h1, he]
  rfl

/-- No interrupt is accepted: the halt state, or an instruction. -/
theorem runBoundary_of_no_event {s : State} {b : Boundary} (hg : s.busGranted = false) (hr : b.req = false)
    (hn : s.nmiPending = false) (hint : b.int = false ∨ s.iff1 = false ∨ s.eiShadow = true) :
    s.runBoundary b = if s.halted then .next s else s.runInstr := by
  have hnot : (b.int && s.iff1 && !s.eiShadow) = false := by
    obtain h | h | h := hint <;> simp [h]
  rw [runBoundary_of_own_bus hg hr, hn, hnot]
  rfl

/-! ### A granted bus, a request, and the halt state -/

/-- Settles O50: the three outcomes of `runBoundary` that enter no handler and run no instruction, on the state in which
the inputs were taken. -/
theorem busGrantAndHaltIdle : Obligations.BusGrantAndHaltIdle := by
  unfold Obligations.BusGrantAndHaltIdle
  intro s hrst hdebug
  have hstep := step_of_running s hrst hdebug
  refine ⟨_, inputsTaken_takeInputs s, fun hg => ?_, fun hg hreq => ?_, fun hg hreq hn hedge hint hhalted => ?_⟩
  · rw [hstep, runBoundary_of_granted _ (by simpa using hg)]
  · rw [hstep, runBoundary_of_request (by simpa using hg) hreq]
  · rw [hstep, runBoundary_of_no_event (by simpa using hg) hreq (by simp [hn, hedge]) (by simpa using hint),
      if_pos (by simpa using hhalted)]

/-! ### Reset (70_reset_and_hazards.md R490) -/

theorem wasReset_doReset (u : State) (stopped : Bool) : WasReset u (u.doReset stopped) :=
  ⟨readReg_doReset u stopped, rfl, rfl, rfl, rfl, fun _ => rfl, rfl, rfl, rfl, rfl⟩

theorem doReset_debugStopped_tsk80aD {u : State} (stopped : Bool) (hv : u.platform.variant = .tsk80aD) :
    (u.doReset stopped).debugStopped = stopped := by
  rw [show (u.doReset stopped).debugStopped = (stopped && u.platform.variant == .tsk80aD) from rfl, hv]
  exact Bool.and_true stopped

theorem doReset_debugStopped_tsk80a {u : State} (stopped : Bool) (hv : u.platform.variant = .tsk80a) :
    (u.doReset stopped).debugStopped = false := by
  rw [show (u.doReset stopped).debugStopped = (stopped && u.platform.variant == .tsk80aD) from rfl, hv]
  exact Bool.and_false stopped

theorem readReg_reset (n : RegName) : State.reset.readReg n = 0 := by
  cases n <;> rfl

/-- Settles O52: `State.reset` by its definition, and a step with `RST` is `doReset` after the inputs were taken. -/
theorem resetLeavesZero : Obligations.ResetLeavesZero := by
  unfold Obligations.ResetLeavesZero
  refine ⟨readReg_reset, ⟨rfl, rfl, rfl, rfl⟩, fun s hrst => ?_⟩
  exact ⟨_, _, inputsTaken_takeInputs s, step_of_rst s hrst, wasReset_doReset _ _,
    fun hv => doReset_debugStopped_tsk80aD _ (by simpa using hv),
    fun hv => doReset_debugStopped_tsk80a _ (by simpa using hv)⟩

/-! ### The debug host (60_exceptions.md R482) -/

/-- Whether the debug unit holds the processor does not matter to a write of another master. -/
theorem poke_with_debugStopped (s : State) (d : Bool) (a : Word) (v : Byte) :
    State.poke { s with debugStopped := d } a v = { s.poke a v with debugStopped := d } := by
  have hkind : State.kindAt { s with debugStopped := d } a = s.kindAt a := rfl
  unfold State.poke
  rw [hkind]
  cases s.kindAt a <;> rfl

theorem masterWrites_with_debugStopped (ws : List (Word × Byte)) (s : State) (d : Bool) :
    State.masterWrites { s with debugStopped := d } ws = { s.masterWrites ws with debugStopped := d } := by
  induction ws generalizing s with
  | nil => rfl
  | cons w ws ih =>
    unfold State.masterWrites
    rw [poke_with_debugStopped, ih]

theorem takeInputs_of_granted (s : State) (b : Boundary) (h : s.busGranted = true) :
    s.takeInputs b = (s.latch b).masterWrites b.busWrites := by
  rw [State.takeInputs, State.busMaster, latch_busGranted, if_pos h]

theorem takeInputs_with_debugStopped (s : State) (d : Bool) (b : Boundary) :
    State.takeInputs { s with debugStopped := d } b = { s.takeInputs b with debugStopped := d } := by
  obtain hg | hg := Bool.eq_false_or_eq_true s.busGranted
  · rw [takeInputs_of_granted s b hg]
    exact (takeInputs_of_granted { s with debugStopped := d } b hg).trans
      (masterWrites_with_debugStopped b.busWrites (s.latch b) d)
  · rw [takeInputs_of_own_bus s b hg]
    exact takeInputs_of_own_bus { s with debugStopped := d } b hg

/-- A step of a processor that no debug host holds: a stop request of the host, and then R444. -/
theorem step_of_not_stopped (s : State) (hr : s.boundary.rst = false) (hd : s.debugStopped = false) :
    step s = (s.popInput.takeInputs s.boundary).afterDebug s.boundary := by
  unfold step State.stepAt
  rw [hr, popInput_debugStopped, hd, Bool.and_false, if_neg Bool.false_ne_true, if_neg Bool.false_ne_true]

theorem step_of_stop_request {s : State} (hr : s.boundary.rst = false) (hv : s.platform.variant = .tsk80aD)
    (hd : s.debugStopped = false) (hstop : s.boundary.debugStopRequest = true) :
    step s = .next (s.popInput.takeInputs s.boundary).debugStop := by
  rw [step_of_not_stopped s hr hd, State.afterDebug, takeInputs_platform, popInput_platform, hv, hstop]
  rfl

/-- A single step is a step of the processor that is not held, and then the stop. -/
theorem step_of_single_step {s : State} (hr : s.boundary.rst = false) (hv : s.platform.variant = .tsk80aD)
    (hd : s.debugStopped = true) (hhost : s.boundary.host = .singleStep) :
    step s = stopAgain (step { s with debugStopped := false }) := by
  have hfree : step { s with debugStopped := false } =
      State.afterDebug { s.popInput.takeInputs s.boundary with debugStopped := false } s.boundary :=
    (step_of_not_stopped { s with debugStopped := false } hr rfl).trans
      (congrArg (fun t => State.afterDebug t s.boundary) (takeInputs_with_debugStopped s.popInput false s.boundary))
  rw [step_of_stopped s hr hv hd, State.hostTurn, hhost, hfree]

/-- Settles O51: each command is one arm of `hostTurn` on the state in which the inputs were taken; the accesses are
framed by the lemmas on single accesses, and a single step is `stopAgain` of a step. -/
theorem debugHostTurns : Obligations.DebugHostTurns := by
  unfold Obligations.DebugHostTurns
  intro s hv hrst
  refine ⟨_, inputsTaken_takeInputs s, step_of_stop_request hrst hv, fun hd => ?_⟩
  have hturn := step_of_stopped s hrst hv hd
  refine ⟨fun h => ?_, fun h => ?_, fun h => ?_, fun r h => ?_, fun a h => ?_, fun a v h => ?_, fun p h => ?_,
    fun p v h => ?_, fun h => ?_, fun h => ?_⟩
  case refine_10 =>
    rw [step_of_single_step hrst hv hd h]
    exact ⟨fun t ht => by rw [ht]; rfl, fun e he => by rw [he]; rfl⟩
  all_goals rw [State.hostTurn, h] at hturn
  · exact hturn
  · exact hturn
  · exact hturn
  · exact hturn
  · exact ⟨_, hturn, only_memRead _ a⟩
  · exact ⟨_, hturn, only_memWrite _ a v⟩
  · refine ⟨_, hturn, only_ioRead _ p⟩
  · exact ⟨_, hturn, only_ioWrite _ p v⟩
  · exact ⟨_, hturn, wasReset_doReset _ _, doReset_debugStopped_tsk80aD _ (by simpa using hv)⟩

end Sys2Proof.Machine
end

section
/-! Proofs about interrupts: entry of `NMI` and of `INT` in the three modes, and `RETN` (60_exceptions.md R446 to
R460). Every entry first changes the two flip-flops and runs one special cycle, and then saves `pc`. -/

namespace Sys2Proof.Machine

/-! ### A step at a boundary that reaches the interrupts -/

theorem step_of_reachesInterrupts {s : State} (h : s.reachesInterrupts) :
    step s = (s.popInput.latch s.boundary).runBoundary s.boundary := by
  obtain ⟨hrst, _, hg, hdebug⟩ := h
  rw [step_of_running s hrst hdebug, takeInputs_of_own_bus _ _ (by exact hg)]

theorem step_of_nmi {s : State} (h : s.reachesInterrupts) (hn : s.nmiPending = true ∨ s.boundary.nmiEdge = true) :
    step s = .next ((nmiBegun (s.popInput.latch s.boundary)).enterAt 0x0066) := by
  rw [step_of_reachesInterrupts h]
  obtain ⟨_, hreq, hg, _⟩ := h
  exact runBoundary_of_nmi hg hreq (by simpa using hn)

theorem latch_of_no_edge {s : State} (hedge : s.boundary.nmiEdge = false) :
    s.popInput.latch s.boundary =
      { s with debugEnable := s.boundary.debugEnable.getD s.debugEnable, inputs := s.inputs.tail } := by
  rw [State.latch, hedge, Bool.or_false]
  rfl

/-- Taking a byte from `SFRDATAI` drops it, or counts a draw where the list is at its end. -/
theorem tookSfrData_eq (s : State) :
    s.tookSfrData =
      { s with sfrDataIn := s.sfrDataIn.tail, draws := if s.sfrDataIn = [] then s.draws + 1 else s.draws } := by
  unfold State.tookSfrData
  split <;> rename_i hin
  · rw [hin, if_pos rfl, List.tail_nil, ← hin]
  · rw [hin, if_neg (List.cons_ne_nil _ _), List.tail_cons]

/-- The acknowledge cycle on the state in which the inputs were taken, written out. -/
theorem beginInt_latch_eq_acknowledged {s : State} (hedge : s.boundary.nmiEdge = false) :
    (s.popInput.latch s.boundary).beginInt = s.acknowledged := by
  rw [latch_of_no_edge hedge, State.beginInt, State.intAck, tookSfrData_eq]
  rfl

/-- A boundary that accepts `INT` goes on by the mode, from the state after the acknowledge cycle (R456 to R459). -/
theorem step_of_acceptsInt {s : State} (h : s.acceptsInt) : step s = (s.popInput.latch s.boundary).acceptInt := by
  obtain ⟨hreach, hn, hedge, hint, h1, he⟩ := h
  rw [step_of_reachesInterrupts hreach]
  obtain ⟨_, hreq, hg, _⟩ := hreach
  exact runBoundary_of_int hg hreq (by simp [hn, hedge]) hint h1 he

theorem acceptsInt_no_edge {s : State} (h : s.acceptsInt) : s.boundary.nmiEdge = false := by
  obtain ⟨_, _, hedge, _⟩ := h
  exact hedge

theorem step_of_im0 {s : State} (h : s.acceptsInt) (him : s.im = .im0) : step s = s.acknowledged.mode0 s.sfrIn := by
  rw [step_of_acceptsInt h, State.acceptInt, latch_im, popInput_im, him,
    ← beginInt_latch_eq_acknowledged (acceptsInt_no_edge h)]
  rfl

theorem step_of_im1 {s : State} (h : s.acceptsInt) (him : s.im = .im1) :
    step s = .next (s.acknowledged.enterAt 0x0038) := by
  rw [step_of_acceptsInt h, State.acceptInt, latch_im, popInput_im, him,
    ← beginInt_latch_eq_acknowledged (acceptsInt_no_edge h)]

theorem step_of_im2 {s : State} (h : s.acceptsInt) (him : s.im = .im2) :
    step s = .next (s.acknowledged.mode2 s.sfrIn) := by
  rw [step_of_acceptsInt h, State.acceptInt, latch_im, popInput_im, him,
    ← beginInt_latch_eq_acknowledged (acceptsInt_no_edge h)]
  rfl

/-! ### What an entry changes -/

/-- From `s` to `u` an entry has begun: the two flip-flops may have changed, one special cycle was run, and `pc` is not
saved yet. -/
def EntryBegun (cycle : BusEvent) (s u : State) : Prop :=
  SameRegsBut [.iff1, .iff2] s u ∧ SameMem s u ∧ u.platform = s.platform ∧ Accesses s u [cycle]

theorem EntryBegun.pc_eq {cycle : BusEvent} {s u : State} (h : EntryBegun cycle s u) : u.pc = s.pc :=
  BitVec.eq_of_toNat_eq (h.1 .pc (by simp))

theorem EntryBegun.sp_eq {cycle : BusEvent} {s u : State} (h : EntryBegun cycle s u) : u.sp = s.sp :=
  BitVec.eq_of_toNat_eq (h.1 .sp (by simp))

theorem EntryBegun.kindAt_eq {cycle : BusEvent} {s u : State} (h : EntryBegun cycle s u) (a : Word) :
    u.kindAt a = s.kindAt a := by
  obtain ⟨_, _, hplatform, _⟩ := h
  rw [State.kindAt, State.kindAt, hplatform]

/-- A store of a word, seen from a state with the same memory. -/
theorem StoresWord.of_sameMem {s u t : State} {a w : Word} (h : StoresWord u t a w) (hmem : SameMem s u)
    (hkind : ∀ x : Word, u.kindAt x = s.kindAt x) : StoresWord s t a w := by
  unfold StoresWord at h ⊢
  simp only [hkind, hmem _] at h
  exact h

/-- The whole of an entry that has begun and then stores `pc` on the stack. -/
theorem EntryBegun.then_saves {cycle : BusEvent} {events : List BusEvent} {s u t : State} (h : EntryBegun cycle s u)
    (ht : OnlyStoresWord [.sp, .pc] (u.sp - 2) u.pc events u t) :
    SameRegsBut [.pc, .sp, .iff1, .iff2] s t ∧ StoresWord s t (s.sp - 2) s.pc ∧ Accesses s t (cycle :: events) := by
  have hpc := h.pc_eq
  have hsp := h.sp_eq
  have hkind := h.kindAt_eq
  obtain ⟨hregs, hmem, _, hbus⟩ := h
  obtain ⟨tregs, _, tstores, tbus⟩ := ht
  rw [hpc, hsp] at tstores
  exact ⟨hregs.trans tregs (by simp) (by simp), tstores.of_sameMem hmem hkind, hbus.trans tbus⟩

/-- An entry that saves `pc` and goes to a handler. -/
theorem EntryBegun.then_enterAt {cycle : BusEvent} {s u : State} (h : EntryBegun cycle s u) (target : Word) :
    SameRegsBut [.pc, .sp, .iff1, .iff2] s (u.enterAt target) ∧ StoresWord s (u.enterAt target) (s.sp - 2) s.pc ∧
      Accesses s (u.enterAt target) [cycle, .memWrite (s.sp - 1) (hi s.pc), .memWrite (s.sp - 2) (lo s.pc)] := by
  have hsaves := h.then_saves (only_enterAt u target)
  rw [h.pc_eq, h.sp_eq] at hsaves
  exact hsaves

theorem frame_latch (s : State) (b : Boundary) : SameRegsBut [] s (s.popInput.latch b) := by
  intro n _
  cases n <;> rfl

theorem SameMem.of_mem_eq {s u : State} (h : u.mem = s.mem) : SameMem s u := fun a => by
  rw [State.peek, State.peek, h]

theorem entryBegun_nmi (s : State) (b : Boundary) : EntryBegun (.nmiCycle s.pc) s (nmiBegun (s.popInput.latch b)) :=
  ⟨(frame_latch s b).trans (frame_nmiBegun _) (List.nil_subset _) (List.Subset.refl _),
    SameMem.of_mem_eq (by simp [nmiBegun]), by simp [nmiBegun], by simp [nmiBegun, Accesses]⟩

theorem entryBegun_acknowledged {s : State} (hedge : s.boundary.nmiEdge = false) :
    EntryBegun (.intAck s.pc s.sfrIn) s s.acknowledged :=
  ⟨beginInt_latch_eq_acknowledged hedge ▸
    (frame_latch s s.boundary).trans (frame_beginInt _) (List.nil_subset _) (List.Subset.refl _),
    SameMem.of_mem_eq rfl, rfl, rfl⟩

/-! ### `NMI` and `RETN` -/

theorem only_setIff1 (s : State) (b : Bool) : OnlyRegs [.iff1] s { s with iff1 := b } := by
  refine ⟨fun n hn => ?_, SameControl.refl s, SameMem.refl s, rfl⟩
  cases n <;> first | rfl | simp at hn

theorem only_retn (s : State) :
    OnlyReads [.sp, .pc, .iff1]
      [.memRead s.sp (s.memIn s.sp), .memRead (s.sp + 1) ((s.memRead s.sp).memIn (s.sp + 1))] s
      { s.popPc with iff1 := s.iff2 } :=
  (only_popPc s).trans (only_setIff1 s.popPc s.iff2) (by simp) (by simp)

/-- `RETN` where an entry has saved `pc` on a stack in RAM. -/
theorem exec_retn_of_saved {s t : State} (hstores : StoresWord s t (s.sp - 2) s.pc) (hsp : t.sp = s.sp - 2)
    (hplatform : t.platform = s.platform) (h1 : s.kindAt (s.sp - 1) = .ram) (h2 : s.kindAt (s.sp - 2) = .ram) :
    ∃ u : State, exec .retn t = .next u ∧ u.pc = s.pc ∧ u.sp = s.sp ∧ u.iff1 = t.iff2 := by
  have hnext : s.sp - 2 + 1 = s.sp - 1 := by bv_omega
  have hpop : t.popIn = s.pc :=
    popIn_of_storesWord (hsp.symm ▸ hstores) hplatform (hsp.symm ▸ h2) (by rw [hsp, hnext, h1])
  refine ⟨_, exec_retn t, (popPc_pc t).trans hpop, (popPc_sp t).trans ?_, rfl⟩
  rw [hsp, BitVec.sub_add_cancel]

/-- Settles O47: the entry is `enterAt` of the begun entry, and `RETN` pops what `enterAt` pushed. -/
theorem nonMaskableEntryAndReturn : Obligations.NonMaskableEntryAndReturn := by
  unfold Obligations.NonMaskableEntryAndReturn
  refine ⟨encodedAs_retn, ?_, fun s hreach hn => ?_⟩
  · rintro s _ _ rfl rfl
    exact ⟨_, exec_retn s, popPc_pc s, popPc_sp s, rfl, only_retn s⟩
  have hbegun := entryBegun_nmi s s.boundary
  obtain ⟨hregs, hstores, hbus⟩ := hbegun.then_enterAt 0x0066
  have hsp : ((nmiBegun (s.popInput.latch s.boundary)).enterAt 0x0066).sp = s.sp - 2 := by
    rw [enterAt_sp, hbegun.sp_eq]
  have hiff2 : ((nmiBegun (s.popInput.latch s.boundary)).enterAt 0x0066).iff2 = s.iff1 := enterAt_iff2 _ _
  refine ⟨_, step_of_nmi hreach hn, enterAt_pc _ _, hsp, enterAt_iff1 _ _, hiff2, enterAt_halted _ _,
    enterAt_nmiPending _ _, enterAt_eiShadow _ _, hregs, hstores, hbus, fun h1 h2 => ?_⟩
  obtain ⟨_, _, hplatform, _⟩ := hbegun
  rw [← hiff2]
  exact exec_retn_of_saved hstores hsp ((enterAt_platform _ _).trans hplatform) h1 h2

/-! ### `INT` in modes 1 and 2 -/

/-- `t` is the state after `INT` was accepted in `s`, `pc` was saved and the handler was reached with these accesses;
where the handler is depends on the mode. -/
structure IntEntered (s t : State) (events : List BusEvent) : Prop where
  sp_eq : t.sp = s.sp - 2
  iff1_eq : t.iff1 = false
  iff2_eq : t.iff2 = (s.iff2 && !s.platform.intAckClearsIFF2)
  halted_eq : t.halted = false
  eiShadow_eq : t.eiShadow = false
  sameRegs : SameRegsBut [.pc, .sp, .iff1, .iff2] s t
  stores : StoresWord s t (s.sp - 2) s.pc
  accesses : Accesses s t events

/-- The accesses every mode that saves `pc` begins with. -/
def savingEvents (s : State) : List BusEvent :=
  [.intAck s.pc s.sfrIn, .memWrite (s.sp - 1) (hi s.pc), .memWrite (s.sp - 2) (lo s.pc)]

theorem intEntered_enterAt {s : State} (h : s.acceptsInt) (target : Word) :
    IntEntered s (s.acknowledged.enterAt target) (savingEvents s) where
  sp_eq := enterAt_sp _ _
  iff1_eq := enterAt_iff1 _ _
  iff2_eq := enterAt_iff2 _ _
  halted_eq := enterAt_halted _ _
  eiShadow_eq := enterAt_eiShadow _ _
  sameRegs := ((entryBegun_acknowledged (acceptsInt_no_edge h)).then_enterAt target).1
  stores := ((entryBegun_acknowledged (acceptsInt_no_edge h)).then_enterAt target).2.1
  accesses := ((entryBegun_acknowledged (acceptsInt_no_edge h)).then_enterAt target).2.2

/-- The indirect reading of mode 2 saves `pc` and reads its target from the table (R459). -/
def enterThrough (u : State) (a : Word) : State := ((u.push16 u.pc).memRead16 a).setPc ((u.push16 u.pc).memIn16 a)

theorem mode2_of_direct {u : State} (v : Byte) (h : u.platform.im2Vector = .direct) :
    u.mode2 v = u.enterAt (join u.ireg v) := by
  rw [State.mode2, h]

theorem mode2_of_indirect {u : State} (v : Byte) (h : u.platform.im2Vector = .indirect) :
    u.mode2 v = enterThrough u (join u.ireg v) := by
  rw [State.mode2, h]
  rfl

theorem enterThrough_keeps (u : State) (a : Word) :
    (enterThrough u a).sp = u.sp - 2 ∧ (enterThrough u a).iff1 = u.iff1 ∧ (enterThrough u a).iff2 = u.iff2 ∧
      (enterThrough u a).halted = u.halted ∧ (enterThrough u a).eiShadow = u.eiShadow := by
  simp [enterThrough]

theorem enterThrough_peek (u : State) (a x : Word) : (enterThrough u a).peek x = (u.push16 u.pc).peek x := by
  simp [enterThrough]

theorem only_enterThrough (u : State) (a : Word) :
    OnlyStoresWord [.sp, .pc] (u.sp - 2) u.pc
      ([.memWrite (u.sp - 1) (hi u.pc), .memWrite (u.sp - 2) (lo u.pc)] ++
        [.memRead a ((u.push16 u.pc).memIn a), .memRead (a + 1) (((u.push16 u.pc).memRead a).memIn (a + 1))]) u
      (enterThrough u a) :=
  (only_push16 u u.pc).before ((only_memRead16 _ a).trans (only_setPc _ _) (List.nil_subset _) (List.Subset.refl _))
    (by simp) (by simp)

theorem intEntered_enterThrough {s : State} (h : s.acceptsInt) (a : Word) :
    IntEntered s (enterThrough s.acknowledged a)
      (savingEvents s ++ [.memRead a ((s.acknowledged.push16 s.pc).memIn a),
        .memRead (a + 1) (((s.acknowledged.push16 s.pc).memRead a).memIn (a + 1))]) := by
  obtain ⟨hsp, h1, h2, hhalted, hshadow⟩ := enterThrough_keeps s.acknowledged a
  obtain ⟨hregs, hstores, hbus⟩ :=
    (entryBegun_acknowledged (acceptsInt_no_edge h)).then_saves (only_enterThrough s.acknowledged a)
  exact ⟨hsp, h1, h2, hhalted, hshadow, hregs, hstores, hbus⟩

theorem acknowledged_kindAt (s : State) (x : Word) : s.acknowledged.kindAt x = s.kindAt x := rfl

/-- What the table read returns where memory answers it: the bytes are those after the push. -/
theorem tableRead_of_holdsData {s : State} {a x : Word} (h : holdsData (s.kindAt x) = true) :
    (s.acknowledged.push16 s.pc).memIn x = (enterThrough s.acknowledged a).peek x ∧
      ((s.acknowledged.push16 s.pc).memRead a).memIn x = (enterThrough s.acknowledged a).peek x := by
  have hpushed : holdsData ((s.acknowledged.push16 s.pc).kindAt x) = true := by
    rw [push16_kindAt, acknowledged_kindAt, h]
  have hpeek : (enterThrough s.acknowledged a).peek x = (s.acknowledged.push16 s.pc).peek x :=
    enterThrough_peek s.acknowledged a x
  rw [hpeek, memIn_of_holdsData hpushed, memIn_of_holdsData (by rw [memRead_kindAt, hpushed]), memRead_peek]
  exact ⟨rfl, rfl⟩

/-- Settles O48: mode 1 and the direct reading of mode 2 are `enterAt`, the indirect reading is `enterThrough`, each on
the state after the acknowledge cycle. -/
theorem maskableInterruptEntry : Obligations.MaskableInterruptEntry := by
  unfold Obligations.MaskableInterruptEntry
  rintro s _ _ h rfl rfl hnot0
  cases him : s.im with
  | im0 => exact absurd him hnot0
  | im1 =>
    obtain ⟨hsp, h1, h2, hhalted, hshadow, hregs, hstores, hbus⟩ := intEntered_enterAt h 0x0038
    refine ⟨_, step_of_im1 h him, hsp, h1, h2, hhalted, hshadow, hregs, hstores, fun _ => ?_, nofun, nofun⟩
    exact ⟨enterAt_pc _ _, hbus⟩
  | im2 =>
    cases hvec : s.platform.im2Vector with
    | direct =>
      obtain ⟨hsp, h1, h2, hhalted, hshadow, hregs, hstores, hbus⟩ := intEntered_enterAt h (join s.ireg s.sfrIn)
      refine ⟨_, (step_of_im2 h him).trans (congrArg _ (mode2_of_direct _ hvec)), hsp, h1, h2, hhalted, hshadow, hregs,
        hstores, nofun, fun _ _ => ?_, nofun⟩
      exact ⟨enterAt_pc _ _, hbus⟩
    | indirect =>
      obtain ⟨hsp, h1, h2, hhalted, hshadow, hregs, hstores, hbus⟩ := intEntered_enterThrough h (join s.ireg s.sfrIn)
      refine ⟨_, (step_of_im2 h him).trans (congrArg _ (mode2_of_indirect _ hvec)), hsp, h1, h2, hhalted, hshadow, hregs,
        hstores, nofun, nofun, fun _ _ => ?_⟩
      refine ⟨_, _, rfl, hbus, fun hdata => ?_, fun hdata => ?_⟩
      · exact (tableRead_of_holdsData hdata).1
      · exact (tableRead_of_holdsData hdata).2

/-! ### `INT` in mode 0 -/

/-- What the first byte of an encoding says: it is the whole instruction, or it asks for more. -/
theorem need_single_of_decode {v : Variant} {b : Byte} {more : List Byte} {i : Instr}
    (h : decode v (b :: more) = .ok (i, [])) :
    (more = [] → need v [b] = .complete i) ∧ (more ≠ [] → (need v [b]).asks = true) := by
  change decodeLoop v 4 [b] more = _ at h
  unfold decodeLoop at h
  split at h
  case h_1 j hneed =>
    cases h
    exact ⟨fun _ => hneed, fun hmore => absurd rfl hmore⟩
  case h_2 => cases h
  case h_3 hnotComplete hnotUndefined =>
    have hasks : (need v [b]).asks = true := by
      cases hneed : need v [b] with
      | complete j => exact absurd hneed (hnotComplete j)
      | undefined e => exact absurd hneed (hnotUndefined e)
      | _ => rfl
    refine ⟨fun hmore => ?_, fun _ => hasks⟩
    subst hmore
    cases h

theorem mode0_of_complete {u : State} {v : Byte} {i : Instr} (hneed : need u.platform.variant [v] = .complete i)
    (hi : i ≠ .breakpoint64) : u.mode0 v = exec i u := by
  unfold State.mode0
  rw [hneed]
  split <;> rename_i heq <;> cases heq
  · exact absurd rfl hi
  · rfl

theorem mode0_of_asks {u : State} {v : Byte} (hasks : (need u.platform.variant [v]).asks = true) :
    u.mode0 v = .fault .mode0MultiByte := by
  unfold State.mode0
  split <;> rename_i hneed
  case h_1 | h_2 =>
    rw [hneed] at hasks
    cases hasks
  all_goals rfl

theorem mode0_breakpoint64 {u : State} (hv : u.platform.variant = .tsk80aD) : u.mode0 0x64 = .next u.debugStop := by
  rw [State.mode0, hv]
  rfl

/-- Settles O49: the decoder gives the instruction back from its encoding, so the device's byte alone is complete, or asks
for more. -/
theorem mode0RunsDeviceInstruction : Obligations.Mode0RunsDeviceInstruction := by
  unfold Obligations.Mode0RunsDeviceInstruction
  rintro s _ h him rfl
  have hstep := step_of_im0 h him
  refine ⟨fun hv h64 => ?_, fun i more hwf hencode hi => ?_⟩
  · rw [hstep, h64]
    exact mode0_breakpoint64 hv
  have hdecode := (encodedAs_encode i hwf).2 []
  rw [hencode, List.append_nil] at hdecode
  obtain ⟨hcomplete, hasks⟩ := need_single_of_decode hdecode
  have hruns (hmore : more = []) : step s = exec i s.acknowledged :=
    hstep.trans (mode0_of_complete (hcomplete hmore) hi)
  refine ⟨hruns, ?_, fun hmore => hstep.trans (mode0_of_asks (hasks hmore))⟩
  rintro p rfl
  have hmore : more = [] := by
    rw [(encodedAs_rstP s.platform.variant hwf).1] at hencode
    exact (List.cons.inj hencode).2.symm
  have hentered := intEntered_enterAt h (join 0 p)
  exact ⟨_, (hruns hmore).trans (exec_rstP p _), enterAt_pc _ _, hentered.sp_eq, hentered.iff1_eq, hentered.sameRegs,
    hentered.stores⟩

end Sys2Proof.Machine
end

section
/-! Proofs about memory, about words of the opcode maps, and about the step that runs an instruction: the fetch reads
what the decoder reads (30_encoding.md R90 to R94, 60_exceptions.md R444). -/

namespace Sys2Proof.Machine

/-! ### Memory (20_memory.md R76) -/

/-- Settles O53: the laws of `memWrite`, and of a read where memory answers. -/
theorem memoryReadAfterWrite : Obligations.MemoryReadAfterWrite := by
  unfold Obligations.MemoryReadAfterWrite
  intro s a v
  obtain ⟨hother, hram, hnot⟩ := stores_memWrite s a v
  refine ⟨fun h => ?_, hnot, hother, fun x hx => ?_, memWrite_wf s a v⟩
  · have hdata : holdsData ((s.memWrite a v).kindAt a) = true := by rw [memWrite_kindAt, h]; rfl
    rw [memIn_of_holdsData hdata, hram h]
  · refine memIn_of_holdsData ?_
    obtain h | h := hx <;> rw [h] <;> rfl

/-! ### A few words of each map (30_encoding.md) -/

/-- Settles O59: the decoder runs on each word. -/
theorem decodeWords : Obligations.DecodeWords := by
  unfold Obligations.DecodeWords
  exact ⟨rfl, rfl, rfl, rfl, rfl, rfl, rfl, rfl, rfl, rfl, rfl, rfl⟩

/-! ### The fetch reads what the decoder reads -/

/-- From `s` to `t` bytes at `pc` were read as code by these accesses, in ascending order, `pc` is past them, and nothing
else happened. -/
def Fetched (events : List BusEvent) (s t : State) : Prop :=
  t = { s with pc := s.pc + BitVec.ofNat 16 events.length, bus := events.reverse ++ s.bus } ∧
    ∀ (k : Nat) (e : BusEvent), events[k]? = some e →
      readsCode e (s.pc + BitVec.ofNat 16 k) (s.peek (s.pc + BitVec.ofNat 16 k))

/-- From an address on memory answers with these bytes. -/
def CodeAt (s : State) : Word → List Byte → Prop
  | _, [] => True
  | a, b :: more => holdsData (s.kindAt a) = true ∧ s.peek a = b ∧ CodeAt s (a + 1) more

theorem Fetched.refl (s : State) : Fetched [] s s := by
  refine ⟨?_, fun k e h => by simp at h⟩
  simp

theorem Fetched.peek_eq {events : List BusEvent} {s t : State} (h : Fetched events s t) (a : Word) :
    t.peek a = s.peek a := by
  obtain ⟨rfl, _⟩ := h
  rfl

theorem Fetched.kindAt_eq {events : List BusEvent} {s t : State} (h : Fetched events s t) (a : Word) :
    t.kindAt a = s.kindAt a := by
  obtain ⟨rfl, _⟩ := h
  rfl

/-- The code is the same where memory is. -/
theorem CodeAt.of_same {s t : State} (hpeek : ∀ x : Word, t.peek x = s.peek x)
    (hkind : ∀ x : Word, t.kindAt x = s.kindAt x) {a : Word} {bytes : List Byte} (hcode : CodeAt s a bytes) :
    CodeAt t a bytes := by
  induction bytes generalizing a with
  | nil => exact trivial
  | cons b more ih =>
    obtain ⟨hdata, hbyte, hmore⟩ := hcode
    exact ⟨(hkind a).symm ▸ hdata, (hpeek a).trans hbyte, ih hmore⟩

theorem add_ofNat_succ (a : Word) (k : Nat) : a + BitVec.ofNat 16 (k + 1) = a + 1 + BitVec.ofNat 16 k := by
  rw [BitVec.ofNat_add, BitVec.add_comm (BitVec.ofNat 16 k), ← BitVec.add_assoc]
  rfl

/-- One byte, and then the others. -/
theorem Fetched.cons {e : BusEvent} {events : List BusEvent} {s t u : State} (h1 : Fetched [e] s t)
    (h2 : Fetched events t u) : Fetched (e :: events) s u := by
  have hpc : t.pc = s.pc + 1 := by obtain ⟨rfl, _⟩ := h1; rfl
  have hpeek := h1.peek_eq
  obtain ⟨hu, hevents⟩ := h2
  obtain ⟨ht, hfirst⟩ := h1
  refine ⟨?_, fun k e' hk => ?_⟩
  · rw [hu, List.length_cons, add_ofNat_succ, ← hpc, List.reverse_cons, List.append_assoc, ht]
    rfl
  · cases k with
    | zero => exact hfirst 0 e' hk
    | succ k =>
      rw [add_ofNat_succ, ← hpc, ← hpeek]
      exact hevents k e' hk

theorem tookMemData_of_holdsData {s : State} {a : Word} (h : holdsData (s.kindAt a) = true) : s.tookMemData a = s := by
  rw [State.tookMemData, if_pos h]

theorem fetched_singleton {e : BusEvent} {s : State} (h : readsCode e s.pc (s.peek s.pc)) :
    Fetched [e] s { s with pc := s.pc + 1, bus := e :: s.bus } := by
  refine ⟨rfl, fun k e' hk => ?_⟩
  cases k with
  | zero =>
    cases hk
    simpa using h
  | succ k => cases hk

theorem fetched_fetchOpcode {s : State} (h : holdsData (s.kindAt s.pc) = true) :
    ∃ e : BusEvent, Fetched [e] s s.fetchOpcode := by
  refine ⟨.fetch s.pc (s.peek s.pc), ?_⟩
  rw [State.fetchOpcode, tookMemData_of_holdsData h, memIn_of_holdsData h]
  exact fetched_singleton (.inl rfl)

theorem fetched_fetchOperand {s : State} (h : holdsData (s.kindAt s.pc) = true) :
    ∃ e : BusEvent, Fetched [e] s s.fetchOperand := by
  refine ⟨.memRead s.pc (s.peek s.pc), ?_⟩
  rw [State.fetchOperand, State.memRead, tookMemData_of_holdsData h, memIn_of_holdsData h]
  exact fetched_singleton (.inr rfl)

theorem fetched_fetchFinal {s : State} (h : holdsData (s.kindAt s.pc) = true) :
    ∃ e : BusEvent, Fetched [e] s s.fetchFinal := by
  unfold State.fetchFinal
  split
  · exact fetched_fetchOpcode h
  · exact fetched_fetchOperand h

/-- Where the decoder asks for a byte, the fetch reads the byte at `pc`. -/
theorem fetchLoop_of_asks {v : Variant} {got : List Byte} {s : State} (k : Nat) (hasks : (need v got).asks = true)
    (h : holdsData (s.kindAt s.pc) = true) :
    ∃ (t : State) (e : BusEvent), fetchLoop v (k + 1) got s = fetchLoop v k (got ++ [s.peek s.pc]) t ∧
      Fetched [e] s t := by
  rw [← memIn_of_holdsData h, fetchLoop]
  cases hneed : need v got with
  | complete i => rw [hneed] at hasks; cases hasks
  | undefined e => rw [hneed] at hasks; cases hasks
  | opcodeByte => obtain ⟨e, he⟩ := fetched_fetchOpcode h; exact ⟨_, e, rfl, he⟩
  | operandByte => obtain ⟨e, he⟩ := fetched_fetchOperand h; exact ⟨_, e, rfl, he⟩
  | finalByte => obtain ⟨e, he⟩ := fetched_fetchFinal h; exact ⟨_, e, rfl, he⟩

theorem decodeLoop_of_asks {v : Variant} {got : List Byte} (k : Nat) (b : Byte) (more : List Byte)
    (hasks : (need v got).asks = true) : decodeLoop v (k + 1) got (b :: more) = decodeLoop v k (got ++ [b]) more := by
  rw [decodeLoop]
  cases hneed : need v got with
  | complete i => rw [hneed] at hasks; cases hasks
  | undefined e => rw [hneed] at hasks; cases hasks
  | _ => rfl

theorem decodeLoop_of_undefined {v : Variant} {got : List Byte} {e : DecodeError} (hneed : need v got = .undefined e)
    (k : Nat) (bytes : List Byte) : decodeLoop v (k + 1) got bytes = .error e := by
  unfold decodeLoop
  rw [hneed]

/-- Where the decoder is not cut short, the fetch ends as the decoder does, and has read the bytes that the decoder has
used. -/
theorem fetchLoop_of_decodeLoop {v : Variant} (k : Nat) {got bytes : List Byte} {s : State}
    (hcode : CodeAt s s.pc bytes) (hwhole : decodeLoop v k got bytes ≠ .error .truncated) :
    ∃ (t : State) (events : List BusEvent),
      fetchLoop v k got s = (t, (decodeLoop v k got bytes).map Prod.fst) ∧ Fetched events s t ∧
        ∀ (i : Instr) (left : List Byte), decodeLoop v k got bytes = .ok (i, left) →
          events.length + left.length = bytes.length := by
  induction k generalizing got bytes s with
  | zero => exact absurd rfl hwhole
  | succ k ih =>
    by_cases hasks : (need v got).asks = true
    · cases bytes with
      | nil =>
        refine absurd ?_ hwhole
        rw [decodeLoop]
        cases hneed : need v got with
        | complete i => rw [hneed] at hasks; cases hasks
        | undefined e => rw [hneed] at hasks; cases hasks
        | _ => rfl
      | cons b more =>
        obtain ⟨hdata, hpeek, hmore⟩ := hcode
        obtain ⟨s', e, hloop, hfirst⟩ := fetchLoop_of_asks k hasks hdata
        have hpc : s'.pc = s.pc + 1 := by obtain ⟨rfl, _⟩ := hfirst; rfl
        rw [decodeLoop_of_asks k b more hasks] at hwhole ⊢
        obtain ⟨t, events, hend, hrest, hlength⟩ := ih (hpc.symm ▸ hmore.of_same hfirst.peek_eq hfirst.kindAt_eq) hwhole
        refine ⟨t, e :: events, by rw [hloop, hpeek, hend], hfirst.cons hrest, fun i left h => ?_⟩
        have := hlength i left h
        simp only [List.length_cons]
        omega
    · rw [fetchLoop]
      cases hneed : need v got with
      | complete j =>
        rw [decodeLoop_of_complete hneed k bytes]
        refine ⟨s, [], rfl, Fetched.refl s, fun i left h => ?_⟩
        cases h
        exact Nat.zero_add _
      | undefined e =>
        rw [decodeLoop_of_undefined hneed k bytes]
        exact ⟨s, [], rfl, Fetched.refl s, fun i left h => nomatch h⟩
      | _ => exact absurd (by rw [hneed]; rfl) hasks

/-! ### The step that runs an instruction (60_exceptions.md R444) -/

/-- The state in which the fetch begins: the inputs were taken and the shadow of `EI` has ended. -/
def fetchStart (s : State) : State := { s.popInput.latch s.boundary with eiShadow := false }

theorem step_of_undisturbed {s : State} (h : s.undisturbed) :
    step s = (s.popInput.latch s.boundary).runInstr := by
  obtain ⟨hreach, hn, hedge, hhalted, hint⟩ := h
  rw [step_of_reachesInterrupts hreach]
  obtain ⟨_, hreq, hg, _⟩ := hreach
  have hgo := runBoundary_of_no_event (s := s.popInput.latch s.boundary) (b := s.boundary) hg hreq
    (by simp [hn, hedge]) hint
  rw [latch_halted, popInput_halted, hhalted] at hgo
  exact hgo

theorem fetchInstr_fetchStart (s : State) :
    State.fetchInstr { s.popInput.latch s.boundary with eiShadow := false } =
      fetchLoop s.platform.variant 5 [] (fetchStart s) := rfl

theorem step_of_fetch_ok {s t : State} {i : Instr} (h : s.undisturbed)
    (hfetch : fetchLoop s.platform.variant 5 [] (fetchStart s) = (t, .ok i)) : step s = exec i t := by
  rw [step_of_undisturbed h, State.runInstr, fetchInstr_fetchStart, hfetch]

theorem step_of_fetch_error {s t : State} {e : DecodeError} (h : s.undisturbed)
    (hfetch : fetchLoop s.platform.variant 5 [] (fetchStart s) = (t, .error e)) : step s = .fault (faultOf e) := by
  rw [step_of_undisturbed h, State.runInstr, fetchInstr_fetchStart, hfetch]

@[simp] theorem fetchStart_pc (s : State) : (fetchStart s).pc = s.pc := rfl

@[simp] theorem fetchStart_bus (s : State) : (fetchStart s).bus = s.bus := rfl

theorem codeAt_pc {s : State} (h : ∀ k : Nat, k < 4 → holdsData (s.kindAt (s.pc + BitVec.ofNat 16 k)) = true) :
    CodeAt s s.pc [s.peek s.pc, s.peek (s.pc + 1), s.peek (s.pc + 2), s.peek (s.pc + 3)] := by
  have e2 : s.pc + 1 + 1 = s.pc + 2 := by bv_omega
  have e3 : s.pc + 2 + 1 = s.pc + 3 := by bv_omega
  have h0 : holdsData (s.kindAt s.pc) = true := by simpa using h 0 (by decide)
  refine ⟨h0, rfl, h 1 (by decide), rfl, ?_⟩
  rw [e2]
  refine ⟨h 2 (by decide), rfl, ?_⟩
  rw [e3]
  exact ⟨h 3 (by decide), rfl, trivial⟩

theorem codeAt_fetchStart {s : State} {a : Word} {bytes : List Byte} (h : CodeAt s a bytes) :
    CodeAt (fetchStart s) a bytes :=
  CodeAt.of_same (t := fetchStart s) (fun _ => by simp [State.peek, fetchStart])
    (fun _ => by simp [State.kindAt, fetchStart]) h

/-- What the state is in which the instruction runs, against the state before the step. -/
theorem fetched_fetchStart {s t : State} {events : List BusEvent} (h : s.undisturbed)
    (hfetched : Fetched events (fetchStart s) t) :
    t.pc = s.pc + BitVec.ofNat 16 events.length ∧ SameRegsBut [.pc] s t ∧
      t.eiShadow = false ∧ t.nmiPending = false ∧ t.halted = false ∧ t.busGranted = false ∧
      t.debugStopped = s.debugStopped ∧ t.platform = s.platform ∧
      t.debugEnable = s.boundary.debugEnable.getD s.debugEnable ∧ t.inputs = s.inputs.tail ∧
      t.mem = s.mem ∧ t.memDataIn = s.memDataIn ∧ t.sfrDataIn = s.sfrDataIn ∧ t.draws = s.draws ∧
      Accesses s t events := by
  obtain ⟨⟨_, _, hg, _⟩, hn, hedge, hhalted, _⟩ := h
  obtain ⟨rfl, _⟩ := hfetched
  have hregs : SameRegsBut [.pc] s
      { fetchStart s with
        pc := (fetchStart s).pc + BitVec.ofNat 16 events.length, bus := events.reverse ++ (fetchStart s).bus } := by
    intro n hnot
    cases n with
    | pc => simp at hnot
    | _ => simp [State.readReg, fetchStart]
  exact ⟨rfl, hregs, by simp [fetchStart, Accesses, hn, hedge, hhalted, hg]⟩

/-- Settles O57: the fetch follows the decoder over the bytes at `pc`; what it leaves is known field by field. -/
theorem stepRunsDecodedInstruction : Obligations.StepRunsDecodedInstruction := by
  unfold Obligations.StepRunsDecodedInstruction
  rintro s _ h rfl hdata
  have hfollows := fetchLoop_of_decodeLoop (v := s.platform.variant) 5 (got := []) (codeAt_fetchStart (codeAt_pc hdata))
  refine ⟨fun i rest hdecode => ?_, fun e f hmem hdecode => ?_⟩
  · obtain ⟨t, events, hfetch, hfetched, hused⟩ := hfollows fun herr => nomatch hdecode.symm.trans herr
    have hlength : events.length = 4 - rest.length := by
      have := hused i rest hdecode
      simp only [List.length_cons, List.length_nil] at this
      omega
    have hrun := step_of_fetch_ok h (hfetch.trans (congrArg (fun r => (t, Except.map Prod.fst r)) hdecode))
    rw [← hlength]
    obtain ⟨hpc, hregs, hshadow, hnmi, hhalted, hbus, hstopped, hplatform, henable, hinputs, hm, hmemIn, hsfr, hdraws,
      haccesses⟩ := fetched_fetchStart h hfetched
    exact ⟨t, events, hrun, hpc, hregs, hshadow, hnmi, hhalted, hbus, hstopped, hplatform, henable, hinputs, hm, hmemIn,
      hsfr, hdraws, haccesses, rfl, hfetched.2⟩
  · have hnamed : e ≠ .truncated ∧ faultOf e = f := by
      simp only [List.mem_cons, List.not_mem_nil, or_false, Prod.mk.injEq] at hmem
      obtain ⟨rfl, rfl⟩ | ⟨rfl, rfl⟩ | ⟨rfl, rfl⟩ | ⟨rfl, rfl⟩ := hmem <;> exact ⟨nofun, rfl⟩
    obtain ⟨hne, rfl⟩ := hnamed
    obtain ⟨t, events, hfetch, _⟩ := hfollows fun herr => hne (Except.error.inj (hdecode.symm.trans herr))
    exact step_of_fetch_error h (hfetch.trans (congrArg (fun r => (t, Except.map Prod.fst r)) hdecode))

end Sys2Proof.Machine
end
